-- ==== Sys2Proof/Word.lean ====
section
/-! DEFINITION. The widths the spec names (00_scope.md R7, 10_state.md R41, 20_memory.md R85). -/

namespace Sys2Proof

/-- The contents of a general register, and an address: 64 bits (R41, R57). -/
abbrev Word := BitVec 64

/-- The 32-bit operand of class BPF_ALU and BPF_JMP32, and the `imm` field (R15, R47). -/
abbrev Word32 := BitVec 32

/-- A byte of memory, of an instruction slot, or of a value (R57). -/
abbrev Byte := BitVec 8

end Sys2Proof
end

