-- ==== Sys2Proof/Config.lean ====
section
/-! DEFINITION. What a launch fixes (00_scope.md R5) and the free values the spec leaves open.

The parameters are plain data: a partial function of the spec is a finite list of argument and result pairs.
A value that the spec leaves arbitrary is an opaque constant, so no proof can know it. -/

namespace Sys2Proof

/-- `ENDIAN`, one byte order for instruction layout, data and BPF_END (R80). -/
inductive Endian where
  | little
  | big
deriving DecidableEq, Repr

/-- One 64-bit slot of `PROGRAM` as its eight bytes at increasing addresses `b0` .. `b7` (R81, R132, R133). -/
structure Slot where
  b0 : Byte
  b1 : Byte
  b2 : Byte
  b3 : Byte
  b4 : Byte
  b5 : Byte
  b6 : Byte
  b7 : Byte
deriving DecidableEq, Repr

/-- What an access needs of its region (R91): a load reads, a store writes, an atomic operation does both. -/
inductive AccessKind where
  | read
  | write
  | readWrite
deriving DecidableEq, Repr

/-- One entry of `REGIONS` (R90): `length` bytes at `base`, its permissions, and whether other agents may access it.
The initial bytes are the memory given to the launch. -/
structure Region where
  base : Word
  length : Nat
  readable : Bool
  writable : Bool
  shared : Bool
deriving DecidableEq, Repr

/-- How a BPF_CALL names a helper (R400, R403): kind 0 by address, kind 2 by BTF ID. -/
inductive HelperKind where
  | byAddress
  | byBtfId
deriving DecidableEq, Repr

/-- The argument registers of a helper: registers 1 to 5 (R403). -/
inductive ArgReg where
  | r1
  | r2
  | r3
  | r4
  | r5
deriving DecidableEq, Repr

/-- How a helper itself fails (R403, R406): memory it may not touch, or its own failure. An argument register that it reads
and that holds no value is `UnwrittenRegister` and stands in `HelperReply.reads`. That the `info` of `HelperFault` is one
64-bit word is the model's choice, R403 and R551 give it no type and no width. DESIGN CHOICE, safe:
notes/assumptions/18.md. -/
inductive HelperFailure where
  | memFault (addr : Word) (n : Nat) (kind : AccessKind)
  | misaligned (addr : Word) (n : Nat)
  | helperFault (info : Word)
deriving DecidableEq, Repr

/-- What a helper does after its reads of argument registers (R403): (i) a value for register 0, or none, with the bytes it
writes, or (ii) a failure. -/
inductive HelperOutcome where
  | result (r0 : Option Word) (writes : List (Nat × Byte))
  | failed (why : HelperFailure)
deriving DecidableEq, Repr, Inhabited

/-- One reply of a helper (R403): the argument registers it reads in this call, in order, and its outcome if all of them
hold values. The first of them that holds none is the fault `UnwrittenRegister`. -/
structure HelperReply where
  reads : List ArgReg
  outcome : HelperOutcome
deriving DecidableEq, Repr, Inhabited

/-- One case of a helper relation (R403): a reply, and the calls that it belongs to, which are those with the listed
contents of registers 1 to 5 (`none` for no value) and the listed contents of bytes of memory. What is not listed may be
anything. -/
structure HelperCase where
  args : List (ArgReg × Option Word)
  bytes : List (Nat × Option Byte)
  reply : HelperReply
deriving DecidableEq, Repr

/-- One entry of `HELPERS` (R403): its key, and its relation as a list of cases. A call may have the reply of any case it
belongs to; which one is a free value (`Config.helperChoice`). A call that belongs to no case may have any reply, which is
a free value too (`Config.helperReply`). DESIGN CHOICE, safe: notes/assumptions/7.md. -/
structure Helper where
  kind : HelperKind
  id : Word32
  cases : List HelperCase
deriving DecidableEq, Repr

/-- The launch parameters of R5 that stay in force during the run. -/
structure Params where
  /-- `ENDIAN` -/
  endian : Endian
  /-- `PROGRAM` -/
  program : List Slot
  /-- `REGIONS` -/
  regions : List Region
  /-- `STRICT_ALIGN` -/
  strictAlign : Bool
  /-- `STACK_SIZE` -/
  stackSize : Nat
  /-- `MAX_CALL_DEPTH` -/
  maxCallDepth : Nat
  /-- `HELPERS` -/
  helpers : List Helper
  /-- `map_by_fd`, from a file descriptor to the address of a map -/
  mapByFd : List (Word32 × Word)
  /-- `map_by_idx`, from an index to the address of a map -/
  mapByIdx : List (Word32 × Word)
  /-- `map_val`, from the address of a map to the address of its first value -/
  mapVal : List (Word × Word)
  /-- `var_addr`, from an id to the address of a platform variable -/
  varAddr : List (Word32 × Word)
  /-- `code_addr`, from a slot index to the address of that instruction -/
  codeAddr : List (Int × Word)
  /-- `EXTERNAL_AGENTS` -/
  externalAgents : Bool
deriving DecidableEq, Repr

/-- Two regions share no byte (R90). -/
abbrev Region.disjoint (a b : Region) : Prop :=
  a.base.toNat + a.length ≤ b.base.toNat ∨ b.base.toNat + b.length ≤ a.base.toNat

/-- What the spec asks of the parameters: disjoint regions inside the address space (R90), room for the entry function
(R405), `code_addr` undefined outside `PROGRAM` (R518, D28), each address that `map_val` gives the base of a shared region
(R521), and each address that `var_addr` gives the base of a region (R522). -/
abbrev Params.wf (p : Params) : Prop :=
  p.regions.Pairwise Region.disjoint ∧
  (∀ r ∈ p.regions, r.base.toNat + r.length ≤ 2 ^ 64) ∧
  1 ≤ p.maxCallDepth ∧
  (∀ c ∈ p.codeAddr, 0 ≤ c.1 ∧ c.1 < p.program.length) ∧
  (∀ c ∈ p.mapVal, ∃ r ∈ p.regions, r.base = c.2 ∧ r.shared = true) ∧
  ∀ c ∈ p.varAddr, ∃ r ∈ p.regions, r.base = c.2

/-- The parameters of the reset state. `STRICT_ALIGN`, `STACK_SIZE` and `MAX_CALL_DEPTH` are the spec's defaults (R5).
The rest is OPEN in the spec. DESIGN CHOICE, unsafe: notes/assumptions/3.md: little-endian, an empty program, one
private readable and writable region at address 0 with the `8 * 512` bytes R55 asks for, no helper and no platform
address. -/
def Params.default : Params where
  endian := .little
  program := []
  regions := [{ base := 0#64, length := 4096, readable := true, writable := true, shared := false }]
  strictAlign := true
  stackSize := 512
  maxCallDepth := 8
  helpers := []
  mapByFd := []
  mapByIdx := []
  mapVal := []
  varAddr := []
  codeAddr := []
  externalAgents := false

/-- The `k`-th arbitrary byte of the run: what a load reads from a byte with no defined value (R93) or from a byte that
other agents may change (R97). A free value: it has no body. notes/assumptions/5.md, notes/assumptions/6.md. -/
opaque Config.drawnByte : Nat → Byte

/-- What a helper replies to a call that belongs to no case of its relation: a function of its key, the values of registers
1 to 5, the bytes of memory and the number of helper calls completed so far (R403). A free value: it has no body.
notes/assumptions/7.md. -/
opaque Config.helperReply : HelperKind → Word32 → List (Option Word) → List (Nat × Byte) → Nat → HelperReply

/-- Which of the replies that a relation allows comes, by the number of helper calls completed so far (R403). A free value:
it has no body. notes/assumptions/7.md. -/
opaque Config.helperChoice : Nat → Nat

/-- The bytes that other agents write after a step, by the number of their turns so far and the bytes of memory (R97). A
free value: it has no body. notes/assumptions/6.md. -/
opaque Config.othersWrite : Nat → List (Nat × Byte) → List (Nat × Byte)

end Sys2Proof
end

