-- ==== Sys2Proof/Syntax.lean ====
section
/-! DEFINITION. The abstract syntax: one constructor of `Instr` per row of spec/opcode_table.json, in the table's order.

A constructor holds the operands the row's rule names and nothing else; fields that R151 marks 0 and the fixed selector
fields are the encoder's. The assembly of R164 stands in each docstring. -/

namespace Sys2Proof

/-- The eleven general registers (R41). A 4-bit field holding 11 to 15 names none (R160). -/
inductive Reg where
  | r0
  | r1
  | r2
  | r3
  | r4
  | r5
  | r6
  | r7
  | r8
  | r9
  | r10
deriving DecidableEq, Repr

/-- The fields of an encoding that a check can find at fault (R131, R141). -/
inductive FieldName where
  | dstReg
  | srcReg
  | offset
  | imm
  | nextImm
deriving DecidableEq, Repr

/-- The `why` of `IllegalEncoding` (R542): the check that the encoding fails. The spec names no values for it.
DESIGN CHOICE, safe: notes/assumptions/12.md. -/
inductive Illegal where
  /-- no table of R152 to R154 defines the opcode byte (R157) -/
  | undefinedOpcode (opcode : BitVec 8)
  /-- an `offset` selector outside the defined set (R152, R202, R252) -/
  | undefinedOffset (offset : BitVec 16)
  /-- an `imm` selector outside the defined set: a byte swap width (R301) or an atomic operation (R155) -/
  | undefinedImm (imm : Word32)
  /-- a `src_reg` selector outside the defined set: a call kind (R401) or a subtype (R510) -/
  | undefinedSource (src : BitVec 4)
  /-- an unused field that is not zero (R138, R151) -/
  | unusedField (field : FieldName)
  /-- a register number above 10 in a register field (R160) -/
  | noSuchRegister (field : FieldName) (number : BitVec 4)
  /-- the instruction would write register 10 (R44) -/
  | writesFramePointer
  /-- a wide instruction in the last slot of `PROGRAM` (R141) -/
  | missingSecondSlot
  /-- a second slot whose opcode, registers or offset is not zero (R141) -/
  | dirtySecondSlot
deriving DecidableEq, Repr

/-- The 172 instructions of BPF v1.0. -/
inductive Instr where
  /-- R206: `rD += imm` -/
  | add64Imm (dst : Reg) (imm : Word32)
  /-- R207: `rD += rS` -/
  | add64Reg (dst src : Reg)
  /-- R208: `rD -= imm` -/
  | sub64Imm (dst : Reg) (imm : Word32)
  /-- R209: `rD -= rS` -/
  | sub64Reg (dst src : Reg)
  /-- R210: `rD *= imm` -/
  | mul64Imm (dst : Reg) (imm : Word32)
  /-- R211: `rD *= rS` -/
  | mul64Reg (dst src : Reg)
  /-- R212: `rD /= imm` -/
  | div64Imm (dst : Reg) (imm : Word32)
  /-- R213: `rD /= rS` -/
  | div64Reg (dst src : Reg)
  /-- R214: `rD s/= imm` -/
  | sdiv64Imm (dst : Reg) (imm : Word32)
  /-- R215: `rD s/= rS` -/
  | sdiv64Reg (dst src : Reg)
  /-- R216: `rD |= imm` -/
  | or64Imm (dst : Reg) (imm : Word32)
  /-- R217: `rD |= rS` -/
  | or64Reg (dst src : Reg)
  /-- R218: `rD &= imm` -/
  | and64Imm (dst : Reg) (imm : Word32)
  /-- R219: `rD &= rS` -/
  | and64Reg (dst src : Reg)
  /-- R220: `rD <<= imm` -/
  | lsh64Imm (dst : Reg) (imm : Word32)
  /-- R221: `rD <<= rS` -/
  | lsh64Reg (dst src : Reg)
  /-- R222: `rD >>= imm` -/
  | rsh64Imm (dst : Reg) (imm : Word32)
  /-- R223: `rD >>= rS` -/
  | rsh64Reg (dst src : Reg)
  /-- R224: `rD = -rD` -/
  | neg64 (dst : Reg)
  /-- R225: `rD %= imm` -/
  | mod64Imm (dst : Reg) (imm : Word32)
  /-- R226: `rD %= rS` -/
  | mod64Reg (dst src : Reg)
  /-- R227: `rD s%= imm` -/
  | smod64Imm (dst : Reg) (imm : Word32)
  /-- R228: `rD s%= rS` -/
  | smod64Reg (dst src : Reg)
  /-- R229: `rD ^= imm` -/
  | xor64Imm (dst : Reg) (imm : Word32)
  /-- R230: `rD ^= rS` -/
  | xor64Reg (dst src : Reg)
  /-- R231: `rD = imm` -/
  | mov64Imm (dst : Reg) (imm : Word32)
  /-- R232: `rD = rS` -/
  | mov64Reg (dst src : Reg)
  /-- R233: `rD = (s8)rS` -/
  | movsx64From8 (dst src : Reg)
  /-- R234: `rD = (s16)rS` -/
  | movsx64From16 (dst src : Reg)
  /-- R235: `rD = (s32)rS` -/
  | movsx64From32 (dst src : Reg)
  /-- R236: `rD s>>= imm` -/
  | arsh64Imm (dst : Reg) (imm : Word32)
  /-- R237: `rD s>>= rS` -/
  | arsh64Reg (dst src : Reg)
  /-- R256: `wD += imm` -/
  | add32Imm (dst : Reg) (imm : Word32)
  /-- R257: `wD += wS` -/
  | add32Reg (dst src : Reg)
  /-- R258: `wD -= imm` -/
  | sub32Imm (dst : Reg) (imm : Word32)
  /-- R259: `wD -= wS` -/
  | sub32Reg (dst src : Reg)
  /-- R260: `wD *= imm` -/
  | mul32Imm (dst : Reg) (imm : Word32)
  /-- R261: `wD *= wS` -/
  | mul32Reg (dst src : Reg)
  /-- R262: `wD /= imm` -/
  | div32Imm (dst : Reg) (imm : Word32)
  /-- R263: `wD /= wS` -/
  | div32Reg (dst src : Reg)
  /-- R264: `wD s/= imm` -/
  | sdiv32Imm (dst : Reg) (imm : Word32)
  /-- R265: `wD s/= wS` -/
  | sdiv32Reg (dst src : Reg)
  /-- R266: `wD |= imm` -/
  | or32Imm (dst : Reg) (imm : Word32)
  /-- R267: `wD |= wS` -/
  | or32Reg (dst src : Reg)
  /-- R268: `wD &= imm` -/
  | and32Imm (dst : Reg) (imm : Word32)
  /-- R269: `wD &= wS` -/
  | and32Reg (dst src : Reg)
  /-- R270: `wD <<= imm` -/
  | lsh32Imm (dst : Reg) (imm : Word32)
  /-- R271: `wD <<= wS` -/
  | lsh32Reg (dst src : Reg)
  /-- R272: `wD >>= imm` -/
  | rsh32Imm (dst : Reg) (imm : Word32)
  /-- R273: `wD >>= wS` -/
  | rsh32Reg (dst src : Reg)
  /-- R274: `wD = -wD` -/
  | neg32 (dst : Reg)
  /-- R275: `wD %= imm` -/
  | mod32Imm (dst : Reg) (imm : Word32)
  /-- R276: `wD %= wS` -/
  | mod32Reg (dst src : Reg)
  /-- R277: `wD s%= imm` -/
  | smod32Imm (dst : Reg) (imm : Word32)
  /-- R278: `wD s%= wS` -/
  | smod32Reg (dst src : Reg)
  /-- R279: `wD ^= imm` -/
  | xor32Imm (dst : Reg) (imm : Word32)
  /-- R280: `wD ^= wS` -/
  | xor32Reg (dst src : Reg)
  /-- R281: `wD = imm` -/
  | mov32Imm (dst : Reg) (imm : Word32)
  /-- R282: `wD = wS` -/
  | mov32Reg (dst src : Reg)
  /-- R283: `wD = (s8)wS` -/
  | movsx32From8 (dst src : Reg)
  /-- R284: `wD = (s16)wS` -/
  | movsx32From16 (dst src : Reg)
  /-- R285: `wD s>>= imm` -/
  | arsh32Imm (dst : Reg) (imm : Word32)
  /-- R286: `wD s>>= wS` -/
  | arsh32Reg (dst src : Reg)
  /-- R303: `rD = le16 rD` -/
  | le16 (dst : Reg)
  /-- R304: `rD = le32 rD` -/
  | le32 (dst : Reg)
  /-- R305: `rD = le64 rD` -/
  | le64 (dst : Reg)
  /-- R306: `rD = be16 rD` -/
  | be16 (dst : Reg)
  /-- R307: `rD = be32 rD` -/
  | be32 (dst : Reg)
  /-- R308: `rD = be64 rD` -/
  | be64 (dst : Reg)
  /-- R309: `rD = bswap16 rD` -/
  | bswap16 (dst : Reg)
  /-- R310: `rD = bswap32 rD` -/
  | bswap32 (dst : Reg)
  /-- R311: `rD = bswap64 rD` -/
  | bswap64 (dst : Reg)
  /-- R325: `goto +off` -/
  | ja (offset : BitVec 16)
  /-- R326: `if rD == imm goto +off` -/
  | jeq64Imm (dst : Reg) (imm : Word32) (offset : BitVec 16)
  /-- R327: `if rD == rS goto +off` -/
  | jeq64Reg (dst src : Reg) (offset : BitVec 16)
  /-- R328: `if rD > imm goto +off` -/
  | jgt64Imm (dst : Reg) (imm : Word32) (offset : BitVec 16)
  /-- R329: `if rD > rS goto +off` -/
  | jgt64Reg (dst src : Reg) (offset : BitVec 16)
  /-- R330: `if rD >= imm goto +off` -/
  | jge64Imm (dst : Reg) (imm : Word32) (offset : BitVec 16)
  /-- R331: `if rD >= rS goto +off` -/
  | jge64Reg (dst src : Reg) (offset : BitVec 16)
  /-- R332: `if rD & imm goto +off` -/
  | jset64Imm (dst : Reg) (imm : Word32) (offset : BitVec 16)
  /-- R333: `if rD & rS goto +off` -/
  | jset64Reg (dst src : Reg) (offset : BitVec 16)
  /-- R334: `if rD != imm goto +off` -/
  | jne64Imm (dst : Reg) (imm : Word32) (offset : BitVec 16)
  /-- R335: `if rD != rS goto +off` -/
  | jne64Reg (dst src : Reg) (offset : BitVec 16)
  /-- R336: `if rD s> imm goto +off` -/
  | jsgt64Imm (dst : Reg) (imm : Word32) (offset : BitVec 16)
  /-- R337: `if rD s> rS goto +off` -/
  | jsgt64Reg (dst src : Reg) (offset : BitVec 16)
  /-- R338: `if rD s>= imm goto +off` -/
  | jsge64Imm (dst : Reg) (imm : Word32) (offset : BitVec 16)
  /-- R339: `if rD s>= rS goto +off` -/
  | jsge64Reg (dst src : Reg) (offset : BitVec 16)
  /-- R340: `if rD < imm goto +off` -/
  | jlt64Imm (dst : Reg) (imm : Word32) (offset : BitVec 16)
  /-- R341: `if rD < rS goto +off` -/
  | jlt64Reg (dst src : Reg) (offset : BitVec 16)
  /-- R342: `if rD <= imm goto +off` -/
  | jle64Imm (dst : Reg) (imm : Word32) (offset : BitVec 16)
  /-- R343: `if rD <= rS goto +off` -/
  | jle64Reg (dst src : Reg) (offset : BitVec 16)
  /-- R344: `if rD s< imm goto +off` -/
  | jslt64Imm (dst : Reg) (imm : Word32) (offset : BitVec 16)
  /-- R345: `if rD s< rS goto +off` -/
  | jslt64Reg (dst src : Reg) (offset : BitVec 16)
  /-- R346: `if rD s<= imm goto +off` -/
  | jsle64Imm (dst : Reg) (imm : Word32) (offset : BitVec 16)
  /-- R347: `if rD s<= rS goto +off` -/
  | jsle64Reg (dst src : Reg) (offset : BitVec 16)
  /-- R364: `gotol +imm` -/
  | ja32 (imm : Word32)
  /-- R365: `if wD == imm goto +off` -/
  | jeq32Imm (dst : Reg) (imm : Word32) (offset : BitVec 16)
  /-- R366: `if wD == wS goto +off` -/
  | jeq32Reg (dst src : Reg) (offset : BitVec 16)
  /-- R367: `if wD > imm goto +off` -/
  | jgt32Imm (dst : Reg) (imm : Word32) (offset : BitVec 16)
  /-- R368: `if wD > wS goto +off` -/
  | jgt32Reg (dst src : Reg) (offset : BitVec 16)
  /-- R369: `if wD >= imm goto +off` -/
  | jge32Imm (dst : Reg) (imm : Word32) (offset : BitVec 16)
  /-- R370: `if wD >= wS goto +off` -/
  | jge32Reg (dst src : Reg) (offset : BitVec 16)
  /-- R371: `if wD & imm goto +off` -/
  | jset32Imm (dst : Reg) (imm : Word32) (offset : BitVec 16)
  /-- R372: `if wD & wS goto +off` -/
  | jset32Reg (dst src : Reg) (offset : BitVec 16)
  /-- R373: `if wD != imm goto +off` -/
  | jne32Imm (dst : Reg) (imm : Word32) (offset : BitVec 16)
  /-- R374: `if wD != wS goto +off` -/
  | jne32Reg (dst src : Reg) (offset : BitVec 16)
  /-- R375: `if wD s> imm goto +off` -/
  | jsgt32Imm (dst : Reg) (imm : Word32) (offset : BitVec 16)
  /-- R376: `if wD s> wS goto +off` -/
  | jsgt32Reg (dst src : Reg) (offset : BitVec 16)
  /-- R377: `if wD s>= imm goto +off` -/
  | jsge32Imm (dst : Reg) (imm : Word32) (offset : BitVec 16)
  /-- R378: `if wD s>= wS goto +off` -/
  | jsge32Reg (dst src : Reg) (offset : BitVec 16)
  /-- R379: `if wD < imm goto +off` -/
  | jlt32Imm (dst : Reg) (imm : Word32) (offset : BitVec 16)
  /-- R380: `if wD < wS goto +off` -/
  | jlt32Reg (dst src : Reg) (offset : BitVec 16)
  /-- R381: `if wD <= imm goto +off` -/
  | jle32Imm (dst : Reg) (imm : Word32) (offset : BitVec 16)
  /-- R382: `if wD <= wS goto +off` -/
  | jle32Reg (dst src : Reg) (offset : BitVec 16)
  /-- R383: `if wD s< imm goto +off` -/
  | jslt32Imm (dst : Reg) (imm : Word32) (offset : BitVec 16)
  /-- R384: `if wD s< wS goto +off` -/
  | jslt32Reg (dst src : Reg) (offset : BitVec 16)
  /-- R385: `if wD s<= imm goto +off` -/
  | jsle32Imm (dst : Reg) (imm : Word32) (offset : BitVec 16)
  /-- R386: `if wD s<= wS goto +off` -/
  | jsle32Reg (dst src : Reg) (offset : BitVec 16)
  /-- R406: `call imm` -/
  | callHelper (imm : Word32)
  /-- R407: `call local +imm` -/
  | callLocal (imm : Word32)
  /-- R408: `call btf imm` -/
  | callBtf (imm : Word32)
  /-- R409: `exit` -/
  | exit
  /-- R435: `rD = *(u32 *)(rS + off)` -/
  | ldxW (dst src : Reg) (offset : BitVec 16)
  /-- R436: `rD = *(u16 *)(rS + off)` -/
  | ldxH (dst src : Reg) (offset : BitVec 16)
  /-- R437: `rD = *(u8 *)(rS + off)` -/
  | ldxB (dst src : Reg) (offset : BitVec 16)
  /-- R438: `rD = *(u64 *)(rS + off)` -/
  | ldxDw (dst src : Reg) (offset : BitVec 16)
  /-- R439: `*(u32 *)(rD + off) = imm` -/
  | stW (dst : Reg) (offset : BitVec 16) (imm : Word32)
  /-- R440: `*(u16 *)(rD + off) = imm` -/
  | stH (dst : Reg) (offset : BitVec 16) (imm : Word32)
  /-- R441: `*(u8 *)(rD + off) = imm` -/
  | stB (dst : Reg) (offset : BitVec 16) (imm : Word32)
  /-- R442: `*(u64 *)(rD + off) = imm` -/
  | stDw (dst : Reg) (offset : BitVec 16) (imm : Word32)
  /-- R443: `*(u32 *)(rD + off) = rS` -/
  | stxW (dst src : Reg) (offset : BitVec 16)
  /-- R444: `*(u16 *)(rD + off) = rS` -/
  | stxH (dst src : Reg) (offset : BitVec 16)
  /-- R445: `*(u8 *)(rD + off) = rS` -/
  | stxB (dst src : Reg) (offset : BitVec 16)
  /-- R446: `*(u64 *)(rD + off) = rS` -/
  | stxDw (dst src : Reg) (offset : BitVec 16)
  /-- R447: `rD = *(s32 *)(rS + off)` -/
  | ldxsxW (dst src : Reg) (offset : BitVec 16)
  /-- R448: `rD = *(s16 *)(rS + off)` -/
  | ldxsxH (dst src : Reg) (offset : BitVec 16)
  /-- R449: `rD = *(s8 *)(rS + off)` -/
  | ldxsxB (dst src : Reg) (offset : BitVec 16)
  /-- R477: `lock *(u32 *)(rD + off) += wS` -/
  | atomicAdd32 (dst src : Reg) (offset : BitVec 16)
  /-- R478: `wS = atomic_fetch_add((u32 *)(rD + off), wS)` -/
  | atomicFetchAdd32 (dst src : Reg) (offset : BitVec 16)
  /-- R479: `lock *(u32 *)(rD + off) |= wS` -/
  | atomicOr32 (dst src : Reg) (offset : BitVec 16)
  /-- R480: `wS = atomic_fetch_or((u32 *)(rD + off), wS)` -/
  | atomicFetchOr32 (dst src : Reg) (offset : BitVec 16)
  /-- R481: `lock *(u32 *)(rD + off) &= wS` -/
  | atomicAnd32 (dst src : Reg) (offset : BitVec 16)
  /-- R482: `wS = atomic_fetch_and((u32 *)(rD + off), wS)` -/
  | atomicFetchAnd32 (dst src : Reg) (offset : BitVec 16)
  /-- R483: `lock *(u32 *)(rD + off) ^= wS` -/
  | atomicXor32 (dst src : Reg) (offset : BitVec 16)
  /-- R484: `wS = atomic_fetch_xor((u32 *)(rD + off), wS)` -/
  | atomicFetchXor32 (dst src : Reg) (offset : BitVec 16)
  /-- R485: `wS = xchg32_32(rD + off, wS)` -/
  | atomicXchg32 (dst src : Reg) (offset : BitVec 16)
  /-- R486: `w0 = cmpxchg32_32(rD + off, w0, wS)` -/
  | atomicCmpxchg32 (dst src : Reg) (offset : BitVec 16)
  /-- R487: `lock *(u64 *)(rD + off) += rS` -/
  | atomicAdd64 (dst src : Reg) (offset : BitVec 16)
  /-- R488: `rS = atomic_fetch_add((u64 *)(rD + off), rS)` -/
  | atomicFetchAdd64 (dst src : Reg) (offset : BitVec 16)
  /-- R489: `lock *(u64 *)(rD + off) |= rS` -/
  | atomicOr64 (dst src : Reg) (offset : BitVec 16)
  /-- R490: `rS = atomic_fetch_or((u64 *)(rD + off), rS)` -/
  | atomicFetchOr64 (dst src : Reg) (offset : BitVec 16)
  /-- R491: `lock *(u64 *)(rD + off) &= rS` -/
  | atomicAnd64 (dst src : Reg) (offset : BitVec 16)
  /-- R492: `rS = atomic_fetch_and((u64 *)(rD + off), rS)` -/
  | atomicFetchAnd64 (dst src : Reg) (offset : BitVec 16)
  /-- R493: `lock *(u64 *)(rD + off) ^= rS` -/
  | atomicXor64 (dst src : Reg) (offset : BitVec 16)
  /-- R494: `rS = atomic_fetch_xor((u64 *)(rD + off), rS)` -/
  | atomicFetchXor64 (dst src : Reg) (offset : BitVec 16)
  /-- R495: `rS = xchg_64(rD + off, rS)` -/
  | atomicXchg64 (dst src : Reg) (offset : BitVec 16)
  /-- R496: `r0 = cmpxchg_64(rD + off, r0, rS)` -/
  | atomicCmpxchg64 (dst src : Reg) (offset : BitVec 16)
  /-- R514: `rD = imm64 ll` -/
  | ldImm64 (dst : Reg) (imm nextImm : Word32)
  /-- R515: `rD = map_by_fd(imm) ll` -/
  | ldMapFd (dst : Reg) (imm : Word32)
  /-- R516: `rD = map_val(map_by_fd(imm)) + next_imm ll` -/
  | ldMapFdVal (dst : Reg) (imm nextImm : Word32)
  /-- R517: `rD = var_addr(imm) ll` -/
  | ldVarAddr (dst : Reg) (imm : Word32)
  /-- R518: `rD = code_addr(imm) ll` -/
  | ldCodeAddr (dst : Reg) (imm : Word32)
  /-- R519: `rD = map_by_idx(imm) ll` -/
  | ldMapIdx (dst : Reg) (imm : Word32)
  /-- R520: `rD = map_val(map_by_idx(imm)) + next_imm ll` -/
  | ldMapIdxVal (dst : Reg) (imm nextImm : Word32)
  /-- R530: legacy packet access, opcode 0x20; the fields are kept as they stand -/
  | ldAbsW (dst src : BitVec 4) (offset : BitVec 16) (imm : Word32)
  /-- R530: legacy packet access, opcode 0x28; the fields are kept as they stand -/
  | ldAbsH (dst src : BitVec 4) (offset : BitVec 16) (imm : Word32)
  /-- R530: legacy packet access, opcode 0x30; the fields are kept as they stand -/
  | ldAbsB (dst src : BitVec 4) (offset : BitVec 16) (imm : Word32)
  /-- R530: legacy packet access, opcode 0x38; the fields are kept as they stand -/
  | ldAbsDw (dst src : BitVec 4) (offset : BitVec 16) (imm : Word32)
  /-- R530: legacy packet access, opcode 0x40; the fields are kept as they stand -/
  | ldIndW (dst src : BitVec 4) (offset : BitVec 16) (imm : Word32)
  /-- R530: legacy packet access, opcode 0x48; the fields are kept as they stand -/
  | ldIndH (dst src : BitVec 4) (offset : BitVec 16) (imm : Word32)
  /-- R530: legacy packet access, opcode 0x50; the fields are kept as they stand -/
  | ldIndB (dst src : BitVec 4) (offset : BitVec 16) (imm : Word32)
  /-- R530: legacy packet access, opcode 0x58; the fields are kept as they stand -/
  | ldIndDw (dst src : BitVec 4) (offset : BitVec 16) (imm : Word32)
deriving DecidableEq, Repr

end Sys2Proof
end

