-- ==== Sys2Proof/WellFormed.lean ====
section
/-! DEFINITION. Which terms of `Instr` stand for an instruction of the set.

The types settle register numbers and selector values; what is left is the refused write to register 10 (R44, R476). -/

namespace Sys2Proof

/-- `IllegalEncoding` for a written register 10 (R44): the machine's frame pointer is read-only to the program. -/
def Reg.writable : Reg → Bool
  | .r10 => false
  | _ => true

/-- The register that an instruction's encoding names as written (R151): `dst_reg` of arithmetic, byte swap, load and
64-bit immediate instructions, `src_reg` of a fetching atomic other than BPF_CMPXCHG (R473). -/
def Instr.writtenField : Instr → Option Reg
  | .add64Imm dst _ => some dst
  | .add64Reg dst _ => some dst
  | .sub64Imm dst _ => some dst
  | .sub64Reg dst _ => some dst
  | .mul64Imm dst _ => some dst
  | .mul64Reg dst _ => some dst
  | .div64Imm dst _ => some dst
  | .div64Reg dst _ => some dst
  | .sdiv64Imm dst _ => some dst
  | .sdiv64Reg dst _ => some dst
  | .or64Imm dst _ => some dst
  | .or64Reg dst _ => some dst
  | .and64Imm dst _ => some dst
  | .and64Reg dst _ => some dst
  | .lsh64Imm dst _ => some dst
  | .lsh64Reg dst _ => some dst
  | .rsh64Imm dst _ => some dst
  | .rsh64Reg dst _ => some dst
  | .neg64 dst => some dst
  | .mod64Imm dst _ => some dst
  | .mod64Reg dst _ => some dst
  | .smod64Imm dst _ => some dst
  | .smod64Reg dst _ => some dst
  | .xor64Imm dst _ => some dst
  | .xor64Reg dst _ => some dst
  | .mov64Imm dst _ => some dst
  | .mov64Reg dst _ => some dst
  | .movsx64From8 dst _ => some dst
  | .movsx64From16 dst _ => some dst
  | .movsx64From32 dst _ => some dst
  | .arsh64Imm dst _ => some dst
  | .arsh64Reg dst _ => some dst
  | .add32Imm dst _ => some dst
  | .add32Reg dst _ => some dst
  | .sub32Imm dst _ => some dst
  | .sub32Reg dst _ => some dst
  | .mul32Imm dst _ => some dst
  | .mul32Reg dst _ => some dst
  | .div32Imm dst _ => some dst
  | .div32Reg dst _ => some dst
  | .sdiv32Imm dst _ => some dst
  | .sdiv32Reg dst _ => some dst
  | .or32Imm dst _ => some dst
  | .or32Reg dst _ => some dst
  | .and32Imm dst _ => some dst
  | .and32Reg dst _ => some dst
  | .lsh32Imm dst _ => some dst
  | .lsh32Reg dst _ => some dst
  | .rsh32Imm dst _ => some dst
  | .rsh32Reg dst _ => some dst
  | .neg32 dst => some dst
  | .mod32Imm dst _ => some dst
  | .mod32Reg dst _ => some dst
  | .smod32Imm dst _ => some dst
  | .smod32Reg dst _ => some dst
  | .xor32Imm dst _ => some dst
  | .xor32Reg dst _ => some dst
  | .mov32Imm dst _ => some dst
  | .mov32Reg dst _ => some dst
  | .movsx32From8 dst _ => some dst
  | .movsx32From16 dst _ => some dst
  | .arsh32Imm dst _ => some dst
  | .arsh32Reg dst _ => some dst
  | .le16 dst => some dst
  | .le32 dst => some dst
  | .le64 dst => some dst
  | .be16 dst => some dst
  | .be32 dst => some dst
  | .be64 dst => some dst
  | .bswap16 dst => some dst
  | .bswap32 dst => some dst
  | .bswap64 dst => some dst
  | .ja _ => none
  | .jeq64Imm _ _ _ => none
  | .jeq64Reg _ _ _ => none
  | .jgt64Imm _ _ _ => none
  | .jgt64Reg _ _ _ => none
  | .jge64Imm _ _ _ => none
  | .jge64Reg _ _ _ => none
  | .jset64Imm _ _ _ => none
  | .jset64Reg _ _ _ => none
  | .jne64Imm _ _ _ => none
  | .jne64Reg _ _ _ => none
  | .jsgt64Imm _ _ _ => none
  | .jsgt64Reg _ _ _ => none
  | .jsge64Imm _ _ _ => none
  | .jsge64Reg _ _ _ => none
  | .jlt64Imm _ _ _ => none
  | .jlt64Reg _ _ _ => none
  | .jle64Imm _ _ _ => none
  | .jle64Reg _ _ _ => none
  | .jslt64Imm _ _ _ => none
  | .jslt64Reg _ _ _ => none
  | .jsle64Imm _ _ _ => none
  | .jsle64Reg _ _ _ => none
  | .ja32 _ => none
  | .jeq32Imm _ _ _ => none
  | .jeq32Reg _ _ _ => none
  | .jgt32Imm _ _ _ => none
  | .jgt32Reg _ _ _ => none
  | .jge32Imm _ _ _ => none
  | .jge32Reg _ _ _ => none
  | .jset32Imm _ _ _ => none
  | .jset32Reg _ _ _ => none
  | .jne32Imm _ _ _ => none
  | .jne32Reg _ _ _ => none
  | .jsgt32Imm _ _ _ => none
  | .jsgt32Reg _ _ _ => none
  | .jsge32Imm _ _ _ => none
  | .jsge32Reg _ _ _ => none
  | .jlt32Imm _ _ _ => none
  | .jlt32Reg _ _ _ => none
  | .jle32Imm _ _ _ => none
  | .jle32Reg _ _ _ => none
  | .jslt32Imm _ _ _ => none
  | .jslt32Reg _ _ _ => none
  | .jsle32Imm _ _ _ => none
  | .jsle32Reg _ _ _ => none
  | .callHelper _ => none
  | .callLocal _ => none
  | .callBtf _ => none
  | .exit => none
  | .ldxW dst _ _ => some dst
  | .ldxH dst _ _ => some dst
  | .ldxB dst _ _ => some dst
  | .ldxDw dst _ _ => some dst
  | .stW _ _ _ => none
  | .stH _ _ _ => none
  | .stB _ _ _ => none
  | .stDw _ _ _ => none
  | .stxW _ _ _ => none
  | .stxH _ _ _ => none
  | .stxB _ _ _ => none
  | .stxDw _ _ _ => none
  | .ldxsxW dst _ _ => some dst
  | .ldxsxH dst _ _ => some dst
  | .ldxsxB dst _ _ => some dst
  | .atomicAdd32 _ _ _ => none
  | .atomicFetchAdd32 _ src _ => some src
  | .atomicOr32 _ _ _ => none
  | .atomicFetchOr32 _ src _ => some src
  | .atomicAnd32 _ _ _ => none
  | .atomicFetchAnd32 _ src _ => some src
  | .atomicXor32 _ _ _ => none
  | .atomicFetchXor32 _ src _ => some src
  | .atomicXchg32 _ src _ => some src
  | .atomicCmpxchg32 _ _ _ => none
  | .atomicAdd64 _ _ _ => none
  | .atomicFetchAdd64 _ src _ => some src
  | .atomicOr64 _ _ _ => none
  | .atomicFetchOr64 _ src _ => some src
  | .atomicAnd64 _ _ _ => none
  | .atomicFetchAnd64 _ src _ => some src
  | .atomicXor64 _ _ _ => none
  | .atomicFetchXor64 _ src _ => some src
  | .atomicXchg64 _ src _ => some src
  | .atomicCmpxchg64 _ _ _ => none
  | .ldImm64 dst _ _ => some dst
  | .ldMapFd dst _ => some dst
  | .ldMapFdVal dst _ _ => some dst
  | .ldVarAddr dst _ => some dst
  | .ldCodeAddr dst _ => some dst
  | .ldMapIdx dst _ => some dst
  | .ldMapIdxVal dst _ _ => some dst
  | .ldAbsW _ _ _ _ => none
  | .ldAbsH _ _ _ _ => none
  | .ldAbsB _ _ _ _ => none
  | .ldAbsDw _ _ _ _ => none
  | .ldIndW _ _ _ _ => none
  | .ldIndH _ _ _ _ => none
  | .ldIndB _ _ _ _ => none
  | .ldIndDw _ _ _ _ => none

/-- A well-formed instruction names no write to register 10 (R44). -/
def Instr.wf (i : Instr) : Bool :=
  match i.writtenField with
  | some r => r.writable
  | none => true

end Sys2Proof
end

