-- ==== Sys2Proof/Decode.lean ====
section
/-! DEFINITION. From slots to instructions and back (30_encoding.md).

Decoding is total on any slot: it answers an instruction, or the name of the check that the slot fails. It reads no
register and no memory (R162). The encoder is written from the same tables. -/

namespace Sys2Proof

/-- The five fields of the basic format (R131). -/
structure Fields where
  opcode : BitVec 8
  dst : BitVec 4
  src : BitVec 4
  offset : BitVec 16
  imm : Word32
deriving DecidableEq, Repr

/-- The fields of a slot: R132 when `ENDIAN = little`, R133 when `ENDIAN = big`. -/
def Fields.ofSlot (e : Endian) (w : Slot) : Fields :=
  match e with
  | .little =>
    { opcode := w.b0
      dst := w.b1.extractLsb' 0 4
      src := w.b1.extractLsb' 4 4
      offset := w.b3 ++ w.b2
      imm := w.b7 ++ w.b6 ++ w.b5 ++ w.b4 }
  | .big =>
    { opcode := w.b0
      dst := w.b1.extractLsb' 4 4
      src := w.b1.extractLsb' 0 4
      offset := w.b2 ++ w.b3
      imm := w.b4 ++ w.b5 ++ w.b6 ++ w.b7 }

/-- The slot that holds the fields: R132 when `ENDIAN = little`, R133 when `ENDIAN = big`. -/
def Fields.toSlot (e : Endian) (f : Fields) : Slot :=
  match e with
  | .little =>
    { b0 := f.opcode
      b1 := f.src ++ f.dst
      b2 := f.offset.extractLsb' 0 8
      b3 := f.offset.extractLsb' 8 8
      b4 := f.imm.extractLsb' 0 8
      b5 := f.imm.extractLsb' 8 8
      b6 := f.imm.extractLsb' 16 8
      b7 := f.imm.extractLsb' 24 8 }
  | .big =>
    { b0 := f.opcode
      b1 := f.dst ++ f.src
      b2 := f.offset.extractLsb' 8 8
      b3 := f.offset.extractLsb' 0 8
      b4 := f.imm.extractLsb' 24 8
      b5 := f.imm.extractLsb' 16 8
      b6 := f.imm.extractLsb' 8 8
      b7 := f.imm.extractLsb' 0 8 }

/-- The fields of the canonical word `W = imm ++ offset ++ src_reg ++ dst_reg ++ opcode` (R136). -/
def Fields.ofWord (w : BitVec 64) : Fields where
  opcode := w.extractLsb' 0 8
  dst := w.extractLsb' 8 4
  src := w.extractLsb' 12 4
  offset := w.extractLsb' 16 16
  imm := w.extractLsb' 32 32

/-- The number that a register field holds for a register (R41). -/
def Reg.num : Reg → BitVec 4
  | .r0 => 0#4
  | .r1 => 1#4
  | .r2 => 2#4
  | .r3 => 3#4
  | .r4 => 4#4
  | .r5 => 5#4
  | .r6 => 6#4
  | .r7 => 7#4
  | .r8 => 8#4
  | .r9 => 9#4
  | .r10 => 10#4

/-- The register that a field names; 11 to 15 name none (R160). -/
def Reg.ofNum : BitVec 4 → Option Reg
  | 0#4 => some .r0
  | 1#4 => some .r1
  | 2#4 => some .r2
  | 3#4 => some .r3
  | 4#4 => some .r4
  | 5#4 => some .r5
  | 6#4 => some .r6
  | 7#4 => some .r7
  | 8#4 => some .r8
  | 9#4 => some .r9
  | 10#4 => some .r10
  | _ => none

/-! Checks on one field. Each goes on with the rest of the decoding where the field is right. -/

/-- `dst_reg` marked 0 in R151. -/
def zeroDst (f : Fields) (rest : Except Illegal Instr) : Except Illegal Instr :=
  if f.dst = 0#4 then rest else .error (.unusedField .dstReg)

/-- `src_reg` marked 0 in R151. -/
def zeroSrc (f : Fields) (rest : Except Illegal Instr) : Except Illegal Instr :=
  if f.src = 0#4 then rest else .error (.unusedField .srcReg)

/-- `offset` marked 0 in R151. -/
def zeroOffset (f : Fields) (rest : Except Illegal Instr) : Except Illegal Instr :=
  if f.offset = 0#16 then rest else .error (.unusedField .offset)

/-- `imm` marked 0 in R151. -/
def zeroImm (f : Fields) (rest : Except Illegal Instr) : Except Illegal Instr :=
  if f.imm = 0#32 then rest else .error (.unusedField .imm)

/-- A register field that the instruction reads (R160). -/
def readField (name : FieldName) (n : BitVec 4) (rest : Reg → Except Illegal Instr) : Except Illegal Instr :=
  match Reg.ofNum n with
  | some r => rest r
  | none => .error (.noSuchRegister name n)

/-- A register field that the instruction writes: register 10 is refused (R44, R160). -/
def writeField (name : FieldName) (n : BitVec 4) (rest : Reg → Except Illegal Instr) : Except Illegal Instr :=
  readField name n fun r => if r.writable then rest r else .error .writesFramePointer

/-- `offset` 0 or 1 tells DIV from SDIV and MOD from SMOD (R152, R202). -/
def signSelector (f : Fields) (unsigned signed : Except Illegal Instr) : Except Illegal Instr :=
  match f.offset with
  | 0#16 => unsigned
  | 1#16 => signed
  | n => .error (.undefinedOffset n)

/-- `offset` 0, 8 or 16 tells MOV from MOVSX in class BPF_ALU (R152, R252). -/
def moveSelector32 (f : Fields) (mov from8 from16 : Except Illegal Instr) : Except Illegal Instr :=
  match f.offset with
  | 0#16 => mov
  | 8#16 => from8
  | 16#16 => from16
  | n => .error (.undefinedOffset n)

/-- `offset` 0, 8, 16 or 32 tells MOV from MOVSX in class BPF_ALU64 (R152, R202). -/
def moveSelector64 (f : Fields) (mov from8 from16 from32 : Except Illegal Instr) : Except Illegal Instr :=
  match f.offset with
  | 0#16 => mov
  | 8#16 => from8
  | 16#16 => from16
  | 32#16 => from32
  | n => .error (.undefinedOffset n)

/-! The rows of R151: which fields an instruction group uses. -/

/-- ALU or ALU64 with BPF_K. -/
def formatAluK (f : Fields) (make : Reg → Word32 → Instr) : Except Illegal Instr :=
  zeroSrc f <| writeField .dstReg f.dst fun d => .ok (make d f.imm)

/-- ALU or ALU64 with BPF_X, MOVSX among them. -/
def formatAluX (f : Fields) (make : Reg → Reg → Instr) : Except Illegal Instr :=
  zeroImm f <| writeField .dstReg f.dst fun d => readField .srcReg f.src fun r => .ok (make d r)

/-- NEG. -/
def formatNeg (f : Fields) (make : Reg → Instr) : Except Illegal Instr :=
  zeroSrc f <| zeroOffset f <| zeroImm f <| writeField .dstReg f.dst fun d => .ok (make d)

/-- END, whose width is in `imm` (R301). -/
def formatEnd (f : Fields) (make16 make32 make64 : Reg → Instr) : Except Illegal Instr :=
  zeroSrc f <| zeroOffset f <|
  match f.imm with
  | 16#32 => writeField .dstReg f.dst fun d => .ok (make16 d)
  | 32#32 => writeField .dstReg f.dst fun d => .ok (make32 d)
  | 64#32 => writeField .dstReg f.dst fun d => .ok (make64 d)
  | n => .error (.undefinedImm n)

/-- JA of class BPF_JMP. -/
def formatJa (f : Fields) (make : BitVec 16 → Instr) : Except Illegal Instr :=
  zeroDst f <| zeroSrc f <| zeroImm f <| .ok (make f.offset)

/-- JA of class BPF_JMP32. -/
def formatJa32 (f : Fields) (make : Word32 → Instr) : Except Illegal Instr :=
  zeroDst f <| zeroSrc f <| zeroOffset f <| .ok (make f.imm)

/-- A conditional jump with BPF_K. -/
def formatJumpK (f : Fields) (make : Reg → Word32 → BitVec 16 → Instr) : Except Illegal Instr :=
  zeroSrc f <| readField .dstReg f.dst fun d => .ok (make d f.imm f.offset)

/-- A conditional jump with BPF_X. -/
def formatJumpX (f : Fields) (make : Reg → Reg → BitVec 16 → Instr) : Except Illegal Instr :=
  zeroImm f <| readField .dstReg f.dst fun d => readField .srcReg f.src fun r => .ok (make d r f.offset)

/-- CALL. -/
def formatCall (f : Fields) (make : Word32 → Instr) : Except Illegal Instr :=
  zeroDst f <| zeroOffset f <| .ok (make f.imm)

/-- EXIT. -/
def formatNone (f : Fields) (make : Instr) : Except Illegal Instr :=
  zeroDst f <| zeroSrc f <| zeroOffset f <| zeroImm f <| .ok make

/-- LDX with MEM or MEMSX. -/
def formatLoad (f : Fields) (make : Reg → Reg → BitVec 16 → Instr) : Except Illegal Instr :=
  zeroImm f <| writeField .dstReg f.dst fun d => readField .srcReg f.src fun r => .ok (make d r f.offset)

/-- ST with MEM. -/
def formatSt (f : Fields) (make : Reg → BitVec 16 → Word32 → Instr) : Except Illegal Instr :=
  zeroSrc f <| readField .dstReg f.dst fun d => .ok (make d f.offset f.imm)

/-- STX with MEM. -/
def formatStx (f : Fields) (make : Reg → Reg → BitVec 16 → Instr) : Except Illegal Instr :=
  zeroImm f <| readField .dstReg f.dst fun d => readField .srcReg f.src fun r => .ok (make d r f.offset)

/-- STX with ATOMIC whose `src_reg` is only read. -/
def formatAtomic (f : Fields) (make : Reg → Reg → BitVec 16 → Instr) : Except Illegal Instr :=
  readField .dstReg f.dst fun d => readField .srcReg f.src fun r => .ok (make d r f.offset)

/-- STX with ATOMIC whose `src_reg` is also written (R473, R476). -/
def formatFetch (f : Fields) (make : Reg → Reg → BitVec 16 → Instr) : Except Illegal Instr :=
  readField .dstReg f.dst fun d => writeField .srcReg f.src fun r => .ok (make d r f.offset)

/-- The second slot of a wide instruction: present, and clean but for `next_imm` (R141, R512). -/
def secondSlot (second : Option Fields) (rest : Word32 → Except Illegal Instr) : Except Illegal Instr :=
  match second with
  | none => .error .missingSecondSlot
  | some g =>
    if g.opcode = 0#8 ∧ g.dst = 0#4 ∧ g.src = 0#4 ∧ g.offset = 0#16 then rest g.imm else .error .dirtySecondSlot

/-- A 64-bit immediate instruction that uses `next_imm` (subtypes 0, 2 and 6, R512). -/
def formatWideNext (f : Fields) (second : Option Fields) (make : Reg → Word32 → Word32 → Instr) :
    Except Illegal Instr :=
  zeroOffset f <| writeField .dstReg f.dst fun d => secondSlot second fun n => .ok (make d f.imm n)

/-- A 64-bit immediate instruction whose `next_imm` must be zero (subtypes 1, 3, 4 and 5, R141, R512). -/
def formatWide (f : Fields) (second : Option Fields) (make : Reg → Word32 → Instr) : Except Illegal Instr :=
  zeroOffset f <| writeField .dstReg f.dst fun d => secondSlot second fun n =>
    if n = 0#32 then .ok (make d f.imm) else .error (.unusedField .nextImm)

/-! The opcode maps. -/

/-- The atomic operations of opcode 0xc3, told apart by `imm` (R155, R471). -/
def decodeAtomic32 (f : Fields) : Except Illegal Instr :=
  match f.imm with
  | 0x00000000#32 => formatAtomic f .atomicAdd32
  | 0x00000001#32 => formatFetch f .atomicFetchAdd32
  | 0x00000040#32 => formatAtomic f .atomicOr32
  | 0x00000041#32 => formatFetch f .atomicFetchOr32
  | 0x00000050#32 => formatAtomic f .atomicAnd32
  | 0x00000051#32 => formatFetch f .atomicFetchAnd32
  | 0x000000a0#32 => formatAtomic f .atomicXor32
  | 0x000000a1#32 => formatFetch f .atomicFetchXor32
  | 0x000000e1#32 => formatFetch f .atomicXchg32
  | 0x000000f1#32 => formatAtomic f .atomicCmpxchg32
  | n => .error (.undefinedImm n)

/-- The atomic operations of opcode 0xdb, told apart by `imm` (R155, R471). -/
def decodeAtomic64 (f : Fields) : Except Illegal Instr :=
  match f.imm with
  | 0x00000000#32 => formatAtomic f .atomicAdd64
  | 0x00000001#32 => formatFetch f .atomicFetchAdd64
  | 0x00000040#32 => formatAtomic f .atomicOr64
  | 0x00000041#32 => formatFetch f .atomicFetchOr64
  | 0x00000050#32 => formatAtomic f .atomicAnd64
  | 0x00000051#32 => formatFetch f .atomicFetchAnd64
  | 0x000000a0#32 => formatAtomic f .atomicXor64
  | 0x000000a1#32 => formatFetch f .atomicFetchXor64
  | 0x000000e1#32 => formatFetch f .atomicXchg64
  | 0x000000f1#32 => formatAtomic f .atomicCmpxchg64
  | n => .error (.undefinedImm n)

/-- The three kinds of BPF_CALL, opcode 0x85, told apart by `src_reg` (R153, R401). -/
def decodeCall (f : Fields) : Except Illegal Instr :=
  match f.src with
  | 0x0#4 => formatCall f .callHelper
  | 0x1#4 => formatCall f .callLocal
  | 0x2#4 => formatCall f .callBtf
  | n => .error (.undefinedSource n)

/-- The 64-bit immediate instructions of opcode 0x18, told apart by `src_reg` (R156, R510). `next_imm` must be zero for
the subtypes whose pseudocode does not use it (R141). -/
def decodeWide (f : Fields) (second : Option Fields) : Except Illegal Instr :=
  match f.src with
  | 0x0#4 => formatWideNext f second .ldImm64
  | 0x1#4 => formatWide f second .ldMapFd
  | 0x2#4 => formatWideNext f second .ldMapFdVal
  | 0x3#4 => formatWide f second .ldVarAddr
  | 0x4#4 => formatWide f second .ldCodeAddr
  | 0x5#4 => formatWide f second .ldMapIdx
  | 0x6#4 => formatWideNext f second .ldMapIdxVal
  | n => .error (.undefinedSource n)

/-- Class BPF_LD: the 64-bit immediate instructions and the legacy opcodes, which are recognised by the
opcode byte alone (R154, R161, R530). -/
def decodeLd (f : Fields) (second : Option Fields) : Except Illegal Instr :=
  match f.opcode with
  | 0x18#8 => decodeWide f second
  | 0x20#8 => .ok (.ldAbsW f.dst f.src f.offset f.imm)
  | 0x28#8 => .ok (.ldAbsH f.dst f.src f.offset f.imm)
  | 0x30#8 => .ok (.ldAbsB f.dst f.src f.offset f.imm)
  | 0x38#8 => .ok (.ldAbsDw f.dst f.src f.offset f.imm)
  | 0x40#8 => .ok (.ldIndW f.dst f.src f.offset f.imm)
  | 0x48#8 => .ok (.ldIndH f.dst f.src f.offset f.imm)
  | 0x50#8 => .ok (.ldIndB f.dst f.src f.offset f.imm)
  | 0x58#8 => .ok (.ldIndDw f.dst f.src f.offset f.imm)
  | op => .error (.undefinedOpcode op)

/-- Class BPF_LDX (R154). -/
def decodeLdx (f : Fields) : Except Illegal Instr :=
  match f.opcode with
  | 0x61#8 => formatLoad f .ldxW
  | 0x69#8 => formatLoad f .ldxH
  | 0x71#8 => formatLoad f .ldxB
  | 0x79#8 => formatLoad f .ldxDw
  | 0x81#8 => formatLoad f .ldxsxW
  | 0x89#8 => formatLoad f .ldxsxH
  | 0x91#8 => formatLoad f .ldxsxB
  | op => .error (.undefinedOpcode op)

/-- Class BPF_ST (R154). -/
def decodeSt (f : Fields) : Except Illegal Instr :=
  match f.opcode with
  | 0x62#8 => formatSt f .stW
  | 0x6a#8 => formatSt f .stH
  | 0x72#8 => formatSt f .stB
  | 0x7a#8 => formatSt f .stDw
  | op => .error (.undefinedOpcode op)

/-- Class BPF_STX (R154). -/
def decodeStx (f : Fields) : Except Illegal Instr :=
  match f.opcode with
  | 0x63#8 => formatStx f .stxW
  | 0x6b#8 => formatStx f .stxH
  | 0x73#8 => formatStx f .stxB
  | 0x7b#8 => formatStx f .stxDw
  | 0xc3#8 => decodeAtomic32 f
  | 0xdb#8 => decodeAtomic64 f
  | op => .error (.undefinedOpcode op)

/-- Class BPF_ALU (R152). -/
def decodeAlu (f : Fields) : Except Illegal Instr :=
  match f.opcode with
  | 0x04#8 => zeroOffset f (formatAluK f .add32Imm)
  | 0x0c#8 => zeroOffset f (formatAluX f .add32Reg)
  | 0x14#8 => zeroOffset f (formatAluK f .sub32Imm)
  | 0x1c#8 => zeroOffset f (formatAluX f .sub32Reg)
  | 0x24#8 => zeroOffset f (formatAluK f .mul32Imm)
  | 0x2c#8 => zeroOffset f (formatAluX f .mul32Reg)
  | 0x34#8 => signSelector f (formatAluK f .div32Imm) (formatAluK f .sdiv32Imm)
  | 0x3c#8 => signSelector f (formatAluX f .div32Reg) (formatAluX f .sdiv32Reg)
  | 0x44#8 => zeroOffset f (formatAluK f .or32Imm)
  | 0x4c#8 => zeroOffset f (formatAluX f .or32Reg)
  | 0x54#8 => zeroOffset f (formatAluK f .and32Imm)
  | 0x5c#8 => zeroOffset f (formatAluX f .and32Reg)
  | 0x64#8 => zeroOffset f (formatAluK f .lsh32Imm)
  | 0x6c#8 => zeroOffset f (formatAluX f .lsh32Reg)
  | 0x74#8 => zeroOffset f (formatAluK f .rsh32Imm)
  | 0x7c#8 => zeroOffset f (formatAluX f .rsh32Reg)
  | 0x84#8 => formatNeg f .neg32
  | 0x94#8 => signSelector f (formatAluK f .mod32Imm) (formatAluK f .smod32Imm)
  | 0x9c#8 => signSelector f (formatAluX f .mod32Reg) (formatAluX f .smod32Reg)
  | 0xa4#8 => zeroOffset f (formatAluK f .xor32Imm)
  | 0xac#8 => zeroOffset f (formatAluX f .xor32Reg)
  | 0xb4#8 => zeroOffset f (formatAluK f .mov32Imm)
  | 0xbc#8 => moveSelector32 f (formatAluX f .mov32Reg) (formatAluX f .movsx32From8) (formatAluX f .movsx32From16)
  | 0xc4#8 => zeroOffset f (formatAluK f .arsh32Imm)
  | 0xcc#8 => zeroOffset f (formatAluX f .arsh32Reg)
  | 0xd4#8 => formatEnd f .le16 .le32 .le64
  | 0xdc#8 => formatEnd f .be16 .be32 .be64
  | op => .error (.undefinedOpcode op)

/-- Class BPF_JMP (R153). -/
def decodeJmp (f : Fields) : Except Illegal Instr :=
  match f.opcode with
  | 0x05#8 => formatJa f .ja
  | 0x15#8 => formatJumpK f .jeq64Imm
  | 0x1d#8 => formatJumpX f .jeq64Reg
  | 0x25#8 => formatJumpK f .jgt64Imm
  | 0x2d#8 => formatJumpX f .jgt64Reg
  | 0x35#8 => formatJumpK f .jge64Imm
  | 0x3d#8 => formatJumpX f .jge64Reg
  | 0x45#8 => formatJumpK f .jset64Imm
  | 0x4d#8 => formatJumpX f .jset64Reg
  | 0x55#8 => formatJumpK f .jne64Imm
  | 0x5d#8 => formatJumpX f .jne64Reg
  | 0x65#8 => formatJumpK f .jsgt64Imm
  | 0x6d#8 => formatJumpX f .jsgt64Reg
  | 0x75#8 => formatJumpK f .jsge64Imm
  | 0x7d#8 => formatJumpX f .jsge64Reg
  | 0x85#8 => decodeCall f
  | 0x95#8 => formatNone f .exit
  | 0xa5#8 => formatJumpK f .jlt64Imm
  | 0xad#8 => formatJumpX f .jlt64Reg
  | 0xb5#8 => formatJumpK f .jle64Imm
  | 0xbd#8 => formatJumpX f .jle64Reg
  | 0xc5#8 => formatJumpK f .jslt64Imm
  | 0xcd#8 => formatJumpX f .jslt64Reg
  | 0xd5#8 => formatJumpK f .jsle64Imm
  | 0xdd#8 => formatJumpX f .jsle64Reg
  | op => .error (.undefinedOpcode op)

/-- Class BPF_JMP32 (R153). -/
def decodeJmp32 (f : Fields) : Except Illegal Instr :=
  match f.opcode with
  | 0x06#8 => formatJa32 f .ja32
  | 0x16#8 => formatJumpK f .jeq32Imm
  | 0x1e#8 => formatJumpX f .jeq32Reg
  | 0x26#8 => formatJumpK f .jgt32Imm
  | 0x2e#8 => formatJumpX f .jgt32Reg
  | 0x36#8 => formatJumpK f .jge32Imm
  | 0x3e#8 => formatJumpX f .jge32Reg
  | 0x46#8 => formatJumpK f .jset32Imm
  | 0x4e#8 => formatJumpX f .jset32Reg
  | 0x56#8 => formatJumpK f .jne32Imm
  | 0x5e#8 => formatJumpX f .jne32Reg
  | 0x66#8 => formatJumpK f .jsgt32Imm
  | 0x6e#8 => formatJumpX f .jsgt32Reg
  | 0x76#8 => formatJumpK f .jsge32Imm
  | 0x7e#8 => formatJumpX f .jsge32Reg
  | 0xa6#8 => formatJumpK f .jlt32Imm
  | 0xae#8 => formatJumpX f .jlt32Reg
  | 0xb6#8 => formatJumpK f .jle32Imm
  | 0xbe#8 => formatJumpX f .jle32Reg
  | 0xc6#8 => formatJumpK f .jslt32Imm
  | 0xce#8 => formatJumpX f .jslt32Reg
  | 0xd6#8 => formatJumpK f .jsle32Imm
  | 0xde#8 => formatJumpX f .jsle32Reg
  | op => .error (.undefinedOpcode op)

/-- Class BPF_ALU64 (R152). -/
def decodeAlu64 (f : Fields) : Except Illegal Instr :=
  match f.opcode with
  | 0x07#8 => zeroOffset f (formatAluK f .add64Imm)
  | 0x0f#8 => zeroOffset f (formatAluX f .add64Reg)
  | 0x17#8 => zeroOffset f (formatAluK f .sub64Imm)
  | 0x1f#8 => zeroOffset f (formatAluX f .sub64Reg)
  | 0x27#8 => zeroOffset f (formatAluK f .mul64Imm)
  | 0x2f#8 => zeroOffset f (formatAluX f .mul64Reg)
  | 0x37#8 => signSelector f (formatAluK f .div64Imm) (formatAluK f .sdiv64Imm)
  | 0x3f#8 => signSelector f (formatAluX f .div64Reg) (formatAluX f .sdiv64Reg)
  | 0x47#8 => zeroOffset f (formatAluK f .or64Imm)
  | 0x4f#8 => zeroOffset f (formatAluX f .or64Reg)
  | 0x57#8 => zeroOffset f (formatAluK f .and64Imm)
  | 0x5f#8 => zeroOffset f (formatAluX f .and64Reg)
  | 0x67#8 => zeroOffset f (formatAluK f .lsh64Imm)
  | 0x6f#8 => zeroOffset f (formatAluX f .lsh64Reg)
  | 0x77#8 => zeroOffset f (formatAluK f .rsh64Imm)
  | 0x7f#8 => zeroOffset f (formatAluX f .rsh64Reg)
  | 0x87#8 => formatNeg f .neg64
  | 0x97#8 => signSelector f (formatAluK f .mod64Imm) (formatAluK f .smod64Imm)
  | 0x9f#8 => signSelector f (formatAluX f .mod64Reg) (formatAluX f .smod64Reg)
  | 0xa7#8 => zeroOffset f (formatAluK f .xor64Imm)
  | 0xaf#8 => zeroOffset f (formatAluX f .xor64Reg)
  | 0xb7#8 => zeroOffset f (formatAluK f .mov64Imm)
  | 0xbf#8 => moveSelector64 f (formatAluX f .mov64Reg) (formatAluX f .movsx64From8) (formatAluX f .movsx64From16)
    (formatAluX f .movsx64From32)
  | 0xc7#8 => zeroOffset f (formatAluK f .arsh64Imm)
  | 0xcf#8 => zeroOffset f (formatAluX f .arsh64Reg)
  | 0xd7#8 => formatEnd f .bswap16 .bswap32 .bswap64
  | op => .error (.undefinedOpcode op)

/-- The decoding procedure of R162, by `class = opcode[2:0]` (R144). `second` is the slot after, where there is one. -/
def decodeFields (f : Fields) (second : Option Fields) : Except Illegal Instr :=
  match f.opcode.extractLsb' 0 3 with
  | 0#3 => decodeLd f second
  | 1#3 => decodeLdx f
  | 2#3 => decodeSt f
  | 3#3 => decodeStx f
  | 4#3 => decodeAlu f
  | 5#3 => decodeJmp f
  | 6#3 => decodeJmp32 f
  | _ => decodeAlu64 f

/-- The instruction in the slot `first`, with the slot after it where there is one. -/
def decode (e : Endian) (first : Slot) (second : Option Slot) : Except Illegal Instr :=
  decodeFields (Fields.ofSlot e first) (second.map (Fields.ofSlot e))

/-! The encoder. -/

/-- The fields of the first slot of an instruction: the encoding line of its rule. -/
def Instr.fields : Instr → Fields
  | .add64Imm dst imm => ⟨0x07#8, dst.num, 0#4, 0#16, imm⟩
  | .add64Reg dst src => ⟨0x0f#8, dst.num, src.num, 0#16, 0#32⟩
  | .sub64Imm dst imm => ⟨0x17#8, dst.num, 0#4, 0#16, imm⟩
  | .sub64Reg dst src => ⟨0x1f#8, dst.num, src.num, 0#16, 0#32⟩
  | .mul64Imm dst imm => ⟨0x27#8, dst.num, 0#4, 0#16, imm⟩
  | .mul64Reg dst src => ⟨0x2f#8, dst.num, src.num, 0#16, 0#32⟩
  | .div64Imm dst imm => ⟨0x37#8, dst.num, 0#4, 0#16, imm⟩
  | .div64Reg dst src => ⟨0x3f#8, dst.num, src.num, 0#16, 0#32⟩
  | .sdiv64Imm dst imm => ⟨0x37#8, dst.num, 0#4, 1#16, imm⟩
  | .sdiv64Reg dst src => ⟨0x3f#8, dst.num, src.num, 1#16, 0#32⟩
  | .or64Imm dst imm => ⟨0x47#8, dst.num, 0#4, 0#16, imm⟩
  | .or64Reg dst src => ⟨0x4f#8, dst.num, src.num, 0#16, 0#32⟩
  | .and64Imm dst imm => ⟨0x57#8, dst.num, 0#4, 0#16, imm⟩
  | .and64Reg dst src => ⟨0x5f#8, dst.num, src.num, 0#16, 0#32⟩
  | .lsh64Imm dst imm => ⟨0x67#8, dst.num, 0#4, 0#16, imm⟩
  | .lsh64Reg dst src => ⟨0x6f#8, dst.num, src.num, 0#16, 0#32⟩
  | .rsh64Imm dst imm => ⟨0x77#8, dst.num, 0#4, 0#16, imm⟩
  | .rsh64Reg dst src => ⟨0x7f#8, dst.num, src.num, 0#16, 0#32⟩
  | .neg64 dst => ⟨0x87#8, dst.num, 0#4, 0#16, 0#32⟩
  | .mod64Imm dst imm => ⟨0x97#8, dst.num, 0#4, 0#16, imm⟩
  | .mod64Reg dst src => ⟨0x9f#8, dst.num, src.num, 0#16, 0#32⟩
  | .smod64Imm dst imm => ⟨0x97#8, dst.num, 0#4, 1#16, imm⟩
  | .smod64Reg dst src => ⟨0x9f#8, dst.num, src.num, 1#16, 0#32⟩
  | .xor64Imm dst imm => ⟨0xa7#8, dst.num, 0#4, 0#16, imm⟩
  | .xor64Reg dst src => ⟨0xaf#8, dst.num, src.num, 0#16, 0#32⟩
  | .mov64Imm dst imm => ⟨0xb7#8, dst.num, 0#4, 0#16, imm⟩
  | .mov64Reg dst src => ⟨0xbf#8, dst.num, src.num, 0#16, 0#32⟩
  | .movsx64From8 dst src => ⟨0xbf#8, dst.num, src.num, 8#16, 0#32⟩
  | .movsx64From16 dst src => ⟨0xbf#8, dst.num, src.num, 16#16, 0#32⟩
  | .movsx64From32 dst src => ⟨0xbf#8, dst.num, src.num, 32#16, 0#32⟩
  | .arsh64Imm dst imm => ⟨0xc7#8, dst.num, 0#4, 0#16, imm⟩
  | .arsh64Reg dst src => ⟨0xcf#8, dst.num, src.num, 0#16, 0#32⟩
  | .add32Imm dst imm => ⟨0x04#8, dst.num, 0#4, 0#16, imm⟩
  | .add32Reg dst src => ⟨0x0c#8, dst.num, src.num, 0#16, 0#32⟩
  | .sub32Imm dst imm => ⟨0x14#8, dst.num, 0#4, 0#16, imm⟩
  | .sub32Reg dst src => ⟨0x1c#8, dst.num, src.num, 0#16, 0#32⟩
  | .mul32Imm dst imm => ⟨0x24#8, dst.num, 0#4, 0#16, imm⟩
  | .mul32Reg dst src => ⟨0x2c#8, dst.num, src.num, 0#16, 0#32⟩
  | .div32Imm dst imm => ⟨0x34#8, dst.num, 0#4, 0#16, imm⟩
  | .div32Reg dst src => ⟨0x3c#8, dst.num, src.num, 0#16, 0#32⟩
  | .sdiv32Imm dst imm => ⟨0x34#8, dst.num, 0#4, 1#16, imm⟩
  | .sdiv32Reg dst src => ⟨0x3c#8, dst.num, src.num, 1#16, 0#32⟩
  | .or32Imm dst imm => ⟨0x44#8, dst.num, 0#4, 0#16, imm⟩
  | .or32Reg dst src => ⟨0x4c#8, dst.num, src.num, 0#16, 0#32⟩
  | .and32Imm dst imm => ⟨0x54#8, dst.num, 0#4, 0#16, imm⟩
  | .and32Reg dst src => ⟨0x5c#8, dst.num, src.num, 0#16, 0#32⟩
  | .lsh32Imm dst imm => ⟨0x64#8, dst.num, 0#4, 0#16, imm⟩
  | .lsh32Reg dst src => ⟨0x6c#8, dst.num, src.num, 0#16, 0#32⟩
  | .rsh32Imm dst imm => ⟨0x74#8, dst.num, 0#4, 0#16, imm⟩
  | .rsh32Reg dst src => ⟨0x7c#8, dst.num, src.num, 0#16, 0#32⟩
  | .neg32 dst => ⟨0x84#8, dst.num, 0#4, 0#16, 0#32⟩
  | .mod32Imm dst imm => ⟨0x94#8, dst.num, 0#4, 0#16, imm⟩
  | .mod32Reg dst src => ⟨0x9c#8, dst.num, src.num, 0#16, 0#32⟩
  | .smod32Imm dst imm => ⟨0x94#8, dst.num, 0#4, 1#16, imm⟩
  | .smod32Reg dst src => ⟨0x9c#8, dst.num, src.num, 1#16, 0#32⟩
  | .xor32Imm dst imm => ⟨0xa4#8, dst.num, 0#4, 0#16, imm⟩
  | .xor32Reg dst src => ⟨0xac#8, dst.num, src.num, 0#16, 0#32⟩
  | .mov32Imm dst imm => ⟨0xb4#8, dst.num, 0#4, 0#16, imm⟩
  | .mov32Reg dst src => ⟨0xbc#8, dst.num, src.num, 0#16, 0#32⟩
  | .movsx32From8 dst src => ⟨0xbc#8, dst.num, src.num, 8#16, 0#32⟩
  | .movsx32From16 dst src => ⟨0xbc#8, dst.num, src.num, 16#16, 0#32⟩
  | .arsh32Imm dst imm => ⟨0xc4#8, dst.num, 0#4, 0#16, imm⟩
  | .arsh32Reg dst src => ⟨0xcc#8, dst.num, src.num, 0#16, 0#32⟩
  | .le16 dst => ⟨0xd4#8, dst.num, 0#4, 0#16, 0x00000010#32⟩
  | .le32 dst => ⟨0xd4#8, dst.num, 0#4, 0#16, 0x00000020#32⟩
  | .le64 dst => ⟨0xd4#8, dst.num, 0#4, 0#16, 0x00000040#32⟩
  | .be16 dst => ⟨0xdc#8, dst.num, 0#4, 0#16, 0x00000010#32⟩
  | .be32 dst => ⟨0xdc#8, dst.num, 0#4, 0#16, 0x00000020#32⟩
  | .be64 dst => ⟨0xdc#8, dst.num, 0#4, 0#16, 0x00000040#32⟩
  | .bswap16 dst => ⟨0xd7#8, dst.num, 0#4, 0#16, 0x00000010#32⟩
  | .bswap32 dst => ⟨0xd7#8, dst.num, 0#4, 0#16, 0x00000020#32⟩
  | .bswap64 dst => ⟨0xd7#8, dst.num, 0#4, 0#16, 0x00000040#32⟩
  | .ja offset => ⟨0x05#8, 0#4, 0#4, offset, 0#32⟩
  | .jeq64Imm dst imm offset => ⟨0x15#8, dst.num, 0#4, offset, imm⟩
  | .jeq64Reg dst src offset => ⟨0x1d#8, dst.num, src.num, offset, 0#32⟩
  | .jgt64Imm dst imm offset => ⟨0x25#8, dst.num, 0#4, offset, imm⟩
  | .jgt64Reg dst src offset => ⟨0x2d#8, dst.num, src.num, offset, 0#32⟩
  | .jge64Imm dst imm offset => ⟨0x35#8, dst.num, 0#4, offset, imm⟩
  | .jge64Reg dst src offset => ⟨0x3d#8, dst.num, src.num, offset, 0#32⟩
  | .jset64Imm dst imm offset => ⟨0x45#8, dst.num, 0#4, offset, imm⟩
  | .jset64Reg dst src offset => ⟨0x4d#8, dst.num, src.num, offset, 0#32⟩
  | .jne64Imm dst imm offset => ⟨0x55#8, dst.num, 0#4, offset, imm⟩
  | .jne64Reg dst src offset => ⟨0x5d#8, dst.num, src.num, offset, 0#32⟩
  | .jsgt64Imm dst imm offset => ⟨0x65#8, dst.num, 0#4, offset, imm⟩
  | .jsgt64Reg dst src offset => ⟨0x6d#8, dst.num, src.num, offset, 0#32⟩
  | .jsge64Imm dst imm offset => ⟨0x75#8, dst.num, 0#4, offset, imm⟩
  | .jsge64Reg dst src offset => ⟨0x7d#8, dst.num, src.num, offset, 0#32⟩
  | .jlt64Imm dst imm offset => ⟨0xa5#8, dst.num, 0#4, offset, imm⟩
  | .jlt64Reg dst src offset => ⟨0xad#8, dst.num, src.num, offset, 0#32⟩
  | .jle64Imm dst imm offset => ⟨0xb5#8, dst.num, 0#4, offset, imm⟩
  | .jle64Reg dst src offset => ⟨0xbd#8, dst.num, src.num, offset, 0#32⟩
  | .jslt64Imm dst imm offset => ⟨0xc5#8, dst.num, 0#4, offset, imm⟩
  | .jslt64Reg dst src offset => ⟨0xcd#8, dst.num, src.num, offset, 0#32⟩
  | .jsle64Imm dst imm offset => ⟨0xd5#8, dst.num, 0#4, offset, imm⟩
  | .jsle64Reg dst src offset => ⟨0xdd#8, dst.num, src.num, offset, 0#32⟩
  | .ja32 imm => ⟨0x06#8, 0#4, 0#4, 0#16, imm⟩
  | .jeq32Imm dst imm offset => ⟨0x16#8, dst.num, 0#4, offset, imm⟩
  | .jeq32Reg dst src offset => ⟨0x1e#8, dst.num, src.num, offset, 0#32⟩
  | .jgt32Imm dst imm offset => ⟨0x26#8, dst.num, 0#4, offset, imm⟩
  | .jgt32Reg dst src offset => ⟨0x2e#8, dst.num, src.num, offset, 0#32⟩
  | .jge32Imm dst imm offset => ⟨0x36#8, dst.num, 0#4, offset, imm⟩
  | .jge32Reg dst src offset => ⟨0x3e#8, dst.num, src.num, offset, 0#32⟩
  | .jset32Imm dst imm offset => ⟨0x46#8, dst.num, 0#4, offset, imm⟩
  | .jset32Reg dst src offset => ⟨0x4e#8, dst.num, src.num, offset, 0#32⟩
  | .jne32Imm dst imm offset => ⟨0x56#8, dst.num, 0#4, offset, imm⟩
  | .jne32Reg dst src offset => ⟨0x5e#8, dst.num, src.num, offset, 0#32⟩
  | .jsgt32Imm dst imm offset => ⟨0x66#8, dst.num, 0#4, offset, imm⟩
  | .jsgt32Reg dst src offset => ⟨0x6e#8, dst.num, src.num, offset, 0#32⟩
  | .jsge32Imm dst imm offset => ⟨0x76#8, dst.num, 0#4, offset, imm⟩
  | .jsge32Reg dst src offset => ⟨0x7e#8, dst.num, src.num, offset, 0#32⟩
  | .jlt32Imm dst imm offset => ⟨0xa6#8, dst.num, 0#4, offset, imm⟩
  | .jlt32Reg dst src offset => ⟨0xae#8, dst.num, src.num, offset, 0#32⟩
  | .jle32Imm dst imm offset => ⟨0xb6#8, dst.num, 0#4, offset, imm⟩
  | .jle32Reg dst src offset => ⟨0xbe#8, dst.num, src.num, offset, 0#32⟩
  | .jslt32Imm dst imm offset => ⟨0xc6#8, dst.num, 0#4, offset, imm⟩
  | .jslt32Reg dst src offset => ⟨0xce#8, dst.num, src.num, offset, 0#32⟩
  | .jsle32Imm dst imm offset => ⟨0xd6#8, dst.num, 0#4, offset, imm⟩
  | .jsle32Reg dst src offset => ⟨0xde#8, dst.num, src.num, offset, 0#32⟩
  | .callHelper imm => ⟨0x85#8, 0#4, 0#4, 0#16, imm⟩
  | .callLocal imm => ⟨0x85#8, 0#4, 0x1#4, 0#16, imm⟩
  | .callBtf imm => ⟨0x85#8, 0#4, 0x2#4, 0#16, imm⟩
  | .exit => ⟨0x95#8, 0#4, 0#4, 0#16, 0#32⟩
  | .ldxW dst src offset => ⟨0x61#8, dst.num, src.num, offset, 0#32⟩
  | .ldxH dst src offset => ⟨0x69#8, dst.num, src.num, offset, 0#32⟩
  | .ldxB dst src offset => ⟨0x71#8, dst.num, src.num, offset, 0#32⟩
  | .ldxDw dst src offset => ⟨0x79#8, dst.num, src.num, offset, 0#32⟩
  | .stW dst offset imm => ⟨0x62#8, dst.num, 0#4, offset, imm⟩
  | .stH dst offset imm => ⟨0x6a#8, dst.num, 0#4, offset, imm⟩
  | .stB dst offset imm => ⟨0x72#8, dst.num, 0#4, offset, imm⟩
  | .stDw dst offset imm => ⟨0x7a#8, dst.num, 0#4, offset, imm⟩
  | .stxW dst src offset => ⟨0x63#8, dst.num, src.num, offset, 0#32⟩
  | .stxH dst src offset => ⟨0x6b#8, dst.num, src.num, offset, 0#32⟩
  | .stxB dst src offset => ⟨0x73#8, dst.num, src.num, offset, 0#32⟩
  | .stxDw dst src offset => ⟨0x7b#8, dst.num, src.num, offset, 0#32⟩
  | .ldxsxW dst src offset => ⟨0x81#8, dst.num, src.num, offset, 0#32⟩
  | .ldxsxH dst src offset => ⟨0x89#8, dst.num, src.num, offset, 0#32⟩
  | .ldxsxB dst src offset => ⟨0x91#8, dst.num, src.num, offset, 0#32⟩
  | .atomicAdd32 dst src offset => ⟨0xc3#8, dst.num, src.num, offset, 0#32⟩
  | .atomicFetchAdd32 dst src offset => ⟨0xc3#8, dst.num, src.num, offset, 0x00000001#32⟩
  | .atomicOr32 dst src offset => ⟨0xc3#8, dst.num, src.num, offset, 0x00000040#32⟩
  | .atomicFetchOr32 dst src offset => ⟨0xc3#8, dst.num, src.num, offset, 0x00000041#32⟩
  | .atomicAnd32 dst src offset => ⟨0xc3#8, dst.num, src.num, offset, 0x00000050#32⟩
  | .atomicFetchAnd32 dst src offset => ⟨0xc3#8, dst.num, src.num, offset, 0x00000051#32⟩
  | .atomicXor32 dst src offset => ⟨0xc3#8, dst.num, src.num, offset, 0x000000a0#32⟩
  | .atomicFetchXor32 dst src offset => ⟨0xc3#8, dst.num, src.num, offset, 0x000000a1#32⟩
  | .atomicXchg32 dst src offset => ⟨0xc3#8, dst.num, src.num, offset, 0x000000e1#32⟩
  | .atomicCmpxchg32 dst src offset => ⟨0xc3#8, dst.num, src.num, offset, 0x000000f1#32⟩
  | .atomicAdd64 dst src offset => ⟨0xdb#8, dst.num, src.num, offset, 0#32⟩
  | .atomicFetchAdd64 dst src offset => ⟨0xdb#8, dst.num, src.num, offset, 0x00000001#32⟩
  | .atomicOr64 dst src offset => ⟨0xdb#8, dst.num, src.num, offset, 0x00000040#32⟩
  | .atomicFetchOr64 dst src offset => ⟨0xdb#8, dst.num, src.num, offset, 0x00000041#32⟩
  | .atomicAnd64 dst src offset => ⟨0xdb#8, dst.num, src.num, offset, 0x00000050#32⟩
  | .atomicFetchAnd64 dst src offset => ⟨0xdb#8, dst.num, src.num, offset, 0x00000051#32⟩
  | .atomicXor64 dst src offset => ⟨0xdb#8, dst.num, src.num, offset, 0x000000a0#32⟩
  | .atomicFetchXor64 dst src offset => ⟨0xdb#8, dst.num, src.num, offset, 0x000000a1#32⟩
  | .atomicXchg64 dst src offset => ⟨0xdb#8, dst.num, src.num, offset, 0x000000e1#32⟩
  | .atomicCmpxchg64 dst src offset => ⟨0xdb#8, dst.num, src.num, offset, 0x000000f1#32⟩
  | .ldImm64 dst imm _ => ⟨0x18#8, dst.num, 0#4, 0#16, imm⟩
  | .ldMapFd dst imm => ⟨0x18#8, dst.num, 0x1#4, 0#16, imm⟩
  | .ldMapFdVal dst imm _ => ⟨0x18#8, dst.num, 0x2#4, 0#16, imm⟩
  | .ldVarAddr dst imm => ⟨0x18#8, dst.num, 0x3#4, 0#16, imm⟩
  | .ldCodeAddr dst imm => ⟨0x18#8, dst.num, 0x4#4, 0#16, imm⟩
  | .ldMapIdx dst imm => ⟨0x18#8, dst.num, 0x5#4, 0#16, imm⟩
  | .ldMapIdxVal dst imm _ => ⟨0x18#8, dst.num, 0x6#4, 0#16, imm⟩
  | .ldAbsW dst src offset imm => ⟨0x20#8, dst, src, offset, imm⟩
  | .ldAbsH dst src offset imm => ⟨0x28#8, dst, src, offset, imm⟩
  | .ldAbsB dst src offset imm => ⟨0x30#8, dst, src, offset, imm⟩
  | .ldAbsDw dst src offset imm => ⟨0x38#8, dst, src, offset, imm⟩
  | .ldIndW dst src offset imm => ⟨0x40#8, dst, src, offset, imm⟩
  | .ldIndH dst src offset imm => ⟨0x48#8, dst, src, offset, imm⟩
  | .ldIndB dst src offset imm => ⟨0x50#8, dst, src, offset, imm⟩
  | .ldIndDw dst src offset imm => ⟨0x58#8, dst, src, offset, imm⟩

/-- `next_imm` of a wide instruction; `none` for a basic one (R139, R142). -/
def Instr.nextImm : Instr → Option Word32
  | .add64Imm _ _ => none
  | .add64Reg _ _ => none
  | .sub64Imm _ _ => none
  | .sub64Reg _ _ => none
  | .mul64Imm _ _ => none
  | .mul64Reg _ _ => none
  | .div64Imm _ _ => none
  | .div64Reg _ _ => none
  | .sdiv64Imm _ _ => none
  | .sdiv64Reg _ _ => none
  | .or64Imm _ _ => none
  | .or64Reg _ _ => none
  | .and64Imm _ _ => none
  | .and64Reg _ _ => none
  | .lsh64Imm _ _ => none
  | .lsh64Reg _ _ => none
  | .rsh64Imm _ _ => none
  | .rsh64Reg _ _ => none
  | .neg64 _ => none
  | .mod64Imm _ _ => none
  | .mod64Reg _ _ => none
  | .smod64Imm _ _ => none
  | .smod64Reg _ _ => none
  | .xor64Imm _ _ => none
  | .xor64Reg _ _ => none
  | .mov64Imm _ _ => none
  | .mov64Reg _ _ => none
  | .movsx64From8 _ _ => none
  | .movsx64From16 _ _ => none
  | .movsx64From32 _ _ => none
  | .arsh64Imm _ _ => none
  | .arsh64Reg _ _ => none
  | .add32Imm _ _ => none
  | .add32Reg _ _ => none
  | .sub32Imm _ _ => none
  | .sub32Reg _ _ => none
  | .mul32Imm _ _ => none
  | .mul32Reg _ _ => none
  | .div32Imm _ _ => none
  | .div32Reg _ _ => none
  | .sdiv32Imm _ _ => none
  | .sdiv32Reg _ _ => none
  | .or32Imm _ _ => none
  | .or32Reg _ _ => none
  | .and32Imm _ _ => none
  | .and32Reg _ _ => none
  | .lsh32Imm _ _ => none
  | .lsh32Reg _ _ => none
  | .rsh32Imm _ _ => none
  | .rsh32Reg _ _ => none
  | .neg32 _ => none
  | .mod32Imm _ _ => none
  | .mod32Reg _ _ => none
  | .smod32Imm _ _ => none
  | .smod32Reg _ _ => none
  | .xor32Imm _ _ => none
  | .xor32Reg _ _ => none
  | .mov32Imm _ _ => none
  | .mov32Reg _ _ => none
  | .movsx32From8 _ _ => none
  | .movsx32From16 _ _ => none
  | .arsh32Imm _ _ => none
  | .arsh32Reg _ _ => none
  | .le16 _ => none
  | .le32 _ => none
  | .le64 _ => none
  | .be16 _ => none
  | .be32 _ => none
  | .be64 _ => none
  | .bswap16 _ => none
  | .bswap32 _ => none
  | .bswap64 _ => none
  | .ja _ => none
  | .jeq64Imm _ _ _ => none
  | .jeq64Reg _ _ _ => none
  | .jgt64Imm _ _ _ => none
  | .jgt64Reg _ _ _ => none
  | .jge64Imm _ _ _ => none
  | .jge64Reg _ _ _ => none
  | .jset64Imm _ _ _ => none
  | .jset64Reg _ _ _ => none
  | .jne64Imm _ _ _ => none
  | .jne64Reg _ _ _ => none
  | .jsgt64Imm _ _ _ => none
  | .jsgt64Reg _ _ _ => none
  | .jsge64Imm _ _ _ => none
  | .jsge64Reg _ _ _ => none
  | .jlt64Imm _ _ _ => none
  | .jlt64Reg _ _ _ => none
  | .jle64Imm _ _ _ => none
  | .jle64Reg _ _ _ => none
  | .jslt64Imm _ _ _ => none
  | .jslt64Reg _ _ _ => none
  | .jsle64Imm _ _ _ => none
  | .jsle64Reg _ _ _ => none
  | .ja32 _ => none
  | .jeq32Imm _ _ _ => none
  | .jeq32Reg _ _ _ => none
  | .jgt32Imm _ _ _ => none
  | .jgt32Reg _ _ _ => none
  | .jge32Imm _ _ _ => none
  | .jge32Reg _ _ _ => none
  | .jset32Imm _ _ _ => none
  | .jset32Reg _ _ _ => none
  | .jne32Imm _ _ _ => none
  | .jne32Reg _ _ _ => none
  | .jsgt32Imm _ _ _ => none
  | .jsgt32Reg _ _ _ => none
  | .jsge32Imm _ _ _ => none
  | .jsge32Reg _ _ _ => none
  | .jlt32Imm _ _ _ => none
  | .jlt32Reg _ _ _ => none
  | .jle32Imm _ _ _ => none
  | .jle32Reg _ _ _ => none
  | .jslt32Imm _ _ _ => none
  | .jslt32Reg _ _ _ => none
  | .jsle32Imm _ _ _ => none
  | .jsle32Reg _ _ _ => none
  | .callHelper _ => none
  | .callLocal _ => none
  | .callBtf _ => none
  | .exit => none
  | .ldxW _ _ _ => none
  | .ldxH _ _ _ => none
  | .ldxB _ _ _ => none
  | .ldxDw _ _ _ => none
  | .stW _ _ _ => none
  | .stH _ _ _ => none
  | .stB _ _ _ => none
  | .stDw _ _ _ => none
  | .stxW _ _ _ => none
  | .stxH _ _ _ => none
  | .stxB _ _ _ => none
  | .stxDw _ _ _ => none
  | .ldxsxW _ _ _ => none
  | .ldxsxH _ _ _ => none
  | .ldxsxB _ _ _ => none
  | .atomicAdd32 _ _ _ => none
  | .atomicFetchAdd32 _ _ _ => none
  | .atomicOr32 _ _ _ => none
  | .atomicFetchOr32 _ _ _ => none
  | .atomicAnd32 _ _ _ => none
  | .atomicFetchAnd32 _ _ _ => none
  | .atomicXor32 _ _ _ => none
  | .atomicFetchXor32 _ _ _ => none
  | .atomicXchg32 _ _ _ => none
  | .atomicCmpxchg32 _ _ _ => none
  | .atomicAdd64 _ _ _ => none
  | .atomicFetchAdd64 _ _ _ => none
  | .atomicOr64 _ _ _ => none
  | .atomicFetchOr64 _ _ _ => none
  | .atomicAnd64 _ _ _ => none
  | .atomicFetchAnd64 _ _ _ => none
  | .atomicXor64 _ _ _ => none
  | .atomicFetchXor64 _ _ _ => none
  | .atomicXchg64 _ _ _ => none
  | .atomicCmpxchg64 _ _ _ => none
  | .ldImm64 _ _ nextImm => some nextImm
  | .ldMapFd _ _ => some 0#32
  | .ldMapFdVal _ _ nextImm => some nextImm
  | .ldVarAddr _ _ => some 0#32
  | .ldCodeAddr _ _ => some 0#32
  | .ldMapIdx _ _ => some 0#32
  | .ldMapIdxVal _ _ nextImm => some nextImm
  | .ldAbsW _ _ _ _ => none
  | .ldAbsH _ _ _ _ => none
  | .ldAbsB _ _ _ _ => none
  | .ldAbsDw _ _ _ _ => none
  | .ldIndW _ _ _ _ => none
  | .ldIndH _ _ _ _ => none
  | .ldIndB _ _ _ _ => none
  | .ldIndDw _ _ _ _ => none

/-- The number of slots an instruction takes: two for the wide encoding, else one (R130, R142). -/
def Instr.slots (i : Instr) : Nat :=
  match i.nextImm with
  | some _ => 2
  | none => 1

/-- The second slot of a wide instruction (R139). -/
def Instr.secondFields (i : Instr) : Option Fields :=
  i.nextImm.map fun n => ⟨0#8, 0#4, 0#4, 0#16, n⟩

/-- The slots of an instruction in a byte order. -/
def encode (e : Endian) (i : Instr) : List Slot :=
  i.fields.toSlot e :: (i.secondFields.map (Fields.toSlot e)).toList

/-! Words numbered as spec/opcode_table.json numbers them. -/

/-- The two slots that the number `w` of `nbits` bits stands for: canonical words (R136), the first in bits 63..0, the
second in bits 127..64, every bit from `nbits` up being 0, laid out in the byte order `e`. -/
def tableSlots (e : Endian) (nbits w : Nat) : Slot × Slot :=
  let n := w % 2 ^ nbits
  ((Fields.ofWord (BitVec.ofNat 64 n)).toSlot e, (Fields.ofWord (BitVec.ofNat 64 (n / 2 ^ 64))).toSlot e)

/-- What the decoder reads from a word of spec/opcode_table.json, laid out in little-endian BPF. -/
def decodeTableWord (nbits w : Nat) : Option Instr :=
  let slots := tableSlots .little nbits w
  (decode .little slots.1 (some slots.2)).toOption

end Sys2Proof
end

