-- ==== Sys2Proof/Machine/State.lean ====
section
/-! DEFINITION. The state of a running program (10_state.md), the faults (60_exceptions.md), and the launch
(70_reset_and_hazards.md). -/

namespace Sys2Proof.Machine

/-- The ten kinds of fault (R541). A fault ends the run and changes nothing else (R541, R557), which is why it is the
fault outcome of a step and not a next state (notes/assumptions/1.md). Every kind is a decision of the spec. Each is safe:
the model stops where the spec says that the run stops. -/
inductive Fault where
  /-- R542: the decode of the slot at `pc`, before anything is read. Raised by the fetch, and by the meaning of a term that
  names a write to register 10 (notes/assumptions/11.md). Safe. -/
  | illegalEncoding (pc : Int) (slot : Option Slot) (why : Illegal)
  /-- R543: the read of a register that holds no value, by any instruction or helper that reads one. Safe. -/
  | unwrittenRegister (i : Reg)
  /-- R544: a step that begins with `pc` outside `PROGRAM`. Raised by the fetch. Safe. -/
  | pcOutOfRange (pc : Int)
  /-- R545: an access of `n` bytes at `addr` that `REGIONS` does not admit. Raised by loads, stores, atomics and helpers.
  Safe. -/
  | memFault (addr : Word) (n : Nat) (kind : AccessKind)
  /-- R546: a misaligned access of `n` bytes at `addr`. Raised by loads, stores, atomics and helpers. Safe. -/
  | misalignedAccess (addr : Word) (n : Nat)
  /-- R547: a program-local call at the depth bound. Safe. -/
  | callDepthExceeded (pc : Int)
  /-- R548: a helper call whose key is not in `HELPERS`. Safe. -/
  | unknownHelper (kind : HelperKind) (imm : Word32)
  /-- R549: a platform function undefined at its argument. Raised by the 64-bit immediate subtypes 1 to 6. Safe. -/
  | platformUndefined (subtype : BitVec 4) (imm : Word32)
  /-- R550: one of the eight legacy packet access opcodes, to which the spec gives no effect (R530). Safe. -/
  | unmodelled (opcode : BitVec 8)
  /-- R551: a helper relation that yields a fault. That `info` is one 64-bit word is the model's choice: DESIGN CHOICE,
  notes/assumptions/18.md. Safe. -/
  | helperFault (info : Word)
deriving DecidableEq, Repr

/-- Why the model gives no outcome of the machine. -/
inductive Refusal where
  /-- Raised by the dispatch for an instruction without a meaning. No arm of this model raises it. Safe. -/
  | notModelled (mnemonic : String)
  /-- Raised by the step of a run that has exited or faulted: no step follows (R59, R608). Safe:
  notes/assumptions/13.md. -/
  | runEnded
deriving DecidableEq, Repr

/-- The eleven general registers (R41). `none` is the spec's own "no value" (R46): a register loses its value at a call
or a return (R403, R404, R409). -/
structure RegFile where
  r0 : Option Word
  r1 : Option Word
  r2 : Option Word
  r3 : Option Word
  r4 : Option Word
  r5 : Option Word
  r6 : Option Word
  r7 : Option Word
  r8 : Option Word
  r9 : Option Word
  r10 : Option Word
deriving DecidableEq, Repr

/-- A frame of the call stack (R54): the return slot, the caller's registers 6 to 9, the caller's register 10. -/
structure Frame where
  ret : Int
  x6 : Option Word
  x7 : Option Word
  x8 : Option Word
  x9 : Option Word
  fp : Word
deriving DecidableEq, Repr

/-- The bytes of data memory that hold a defined value, as address and byte pairs (R57, R93). An address that is not
listed holds no defined value. -/
structure Memory where
  cells : List Host.Cell
deriving DecidableEq, Repr

/-- The canonical form: addresses strictly rising and below `2 ^ 64`. An unlisted address has no value, so no entry can
equal what it reads as. -/
abbrev Memory.wf (m : Memory) : Prop :=
  m.cells.Pairwise (fun a b => a.1 < b.1) ∧ ∀ c ∈ m.cells, c.1 < 2 ^ 64

/-- The run status (R59). -/
inductive RunStatus where
  | running
  | exited (v : Word)
  | faulted (why : Fault)
deriving DecidableEq, Repr

/-- The state of a run (R40). `params` is constant (R5, R40; notes/assumptions/4.md); `draws` and `calls` are the model's
own counters for its free values (notes/assumptions/5.md, notes/assumptions/7.md), and so is `turns`
(notes/assumptions/6.md). -/
structure State where
  /-- the general registers (R41) -/
  regs : RegFile
  /-- the program counter: a slot index, a mathematical integer (R48) -/
  pc : Int
  /-- the call stack, the innermost frame first (R54) -/
  frames : List Frame
  /-- the data memory (R57) -/
  mem : Memory
  /-- the run status (R59) -/
  status : RunStatus
  /-- the launch parameters (R5) -/
  params : Params
  /-- how many arbitrary bytes the run has drawn -/
  draws : Nat
  /-- how many helper calls the run has completed -/
  calls : Nat
  /-- how many turns the other agents have had -/
  turns : Nat
deriving DecidableEq, Repr

/-- What a step answers: the next state, a fault of R541, or a refusal of the model. -/
abbrev Result := Host.Outcome State Fault Refusal

/-- The launch procedure (R601): `pc` at slot 0, the registers `ENTRY_REGS` names with their values and the others with
no value, an empty call stack, the given memory, status running. -/
def State.launch (params : Params) (entryRegs : RegFile) (mem : Memory) : State where
  regs := entryRegs
  pc := 0
  frames := []
  mem := mem
  status := .running
  params := params
  draws := 0
  calls := 0
  turns := 0

/-- The `ENTRY_REGS` of the reset state. DESIGN CHOICE, unsafe: notes/assumptions/2.md. The spec gives registers 0 and 6 to
9 no value at entry and leaves the others to the launch (R60); here every register holds a value: register 10 the top of
the default stack region, the others 0. -/
def RegFile.atReset : RegFile where
  r0 := some 0#64
  r1 := some 0#64
  r2 := some 0#64
  r3 := some 0#64
  r4 := some 0#64
  r5 := some 0#64
  r6 := some 0#64
  r7 := some 0#64
  r8 := some 0#64
  r9 := some 0#64
  r10 := some 0x1000#64

/-- The machine right after reset: the launch (R601) with the default parameters and no defined byte of memory. -/
def State.reset : State :=
  State.launch Params.default RegFile.atReset { cells := [] }

end Sys2Proof.Machine
end

