-- ==== Sys2Proof/Machine/Ops.lean ====
section
/-! DEFINITION. The named operations over registers, the program counter, memory and the call stack, and the raising of a
fault.

An operation that can fault takes what follows as its last argument (`rest`), so that a meaning reads in the order of the
spec's pseudocode and a fault leaves nothing changed (R541, R556). -/

namespace Sys2Proof

/-! ## The launch parameters, asked -/

/-- A region holds the `n` bytes at `a` (R91). -/
def Region.holds (r : Region) (a n : Nat) : Bool :=
  decide (r.base.toNat ≤ a ∧ a + n ≤ r.base.toNat + r.length)

/-- A region has the permission that an access needs (R91). -/
def Region.permits (r : Region) : AccessKind → Bool
  | .read => r.readable
  | .write => r.writable
  | .readWrite => r.readable && r.writable

/-- Admission (R91): one region holds all `n` bytes with the permission, and the access does not pass `2 ^ 64`. -/
def Params.admits (p : Params) (kind : AccessKind) (a n : Nat) : Bool :=
  decide (a + n ≤ 2 ^ 64) && p.regions.any fun r => r.holds a n && r.permits kind

/-- Other agents may change the byte at `a` at any moment: `EXTERNAL_AGENTS` holds and `a` is in a shared region (R97). -/
def Params.interferes (p : Params) (a : Nat) : Bool :=
  p.externalAgents && p.regions.any fun r => r.shared && r.holds a 1

/-- The register that holds an argument of a helper (R403). -/
def ArgReg.reg : ArgReg → Reg
  | .r1 => .r1
  | .r2 => .r2
  | .r3 => .r3
  | .r4 => .r4
  | .r5 => .r5

/-- `HELPERS` at a key (R403). -/
def Params.helper (p : Params) (kind : HelperKind) (id : Word32) : Option Helper :=
  p.helpers.find? fun h => h.kind == kind && h.id == id

/-- The fault that a helper relation yields (R403, R406). -/
def HelperFailure.fault : HelperFailure → Machine.Fault
  | .memFault addr n kind => .memFault addr n kind
  | .misaligned addr n => .misalignedAccess addr n
  | .helperFault info => .helperFault info

end Sys2Proof

namespace Sys2Proof.Machine

/-! ## Faults -/

/-- `raise K(info)` (R13, R541): the step ends with the fault and changes nothing. There is no handler, no saved state and
no return from it (R557, R558). -/
def raise (k : Fault) : Result := .fault k

/-- What a fault does to the run (R541, R608): the status becomes `faulted`, the rest of the state is that before the
step. -/
def State.recordFault (s : State) (k : Fault) : State := { s with status := .faulted k }

/-! ## Registers -/

/-- The content of a register, `none` where it holds no value (R46). -/
def RegFile.get (f : RegFile) : Reg → Option Word
  | .r0 => f.r0
  | .r1 => f.r1
  | .r2 => f.r2
  | .r3 => f.r3
  | .r4 => f.r4
  | .r5 => f.r5
  | .r6 => f.r6
  | .r7 => f.r7
  | .r8 => f.r8
  | .r9 => f.r9
  | .r10 => f.r10

/-- The register file with one register's content replaced. -/
def RegFile.put (f : RegFile) (r : Reg) (v : Option Word) : RegFile :=
  match r with
  | .r0 => { f with r0 := v }
  | .r1 => { f with r1 := v }
  | .r2 => { f with r2 := v }
  | .r3 => { f with r3 := v }
  | .r4 => { f with r4 := v }
  | .r5 => { f with r5 := v }
  | .r6 => { f with r6 := v }
  | .r7 => { f with r7 := v }
  | .r8 => { f with r8 := v }
  | .r9 => { f with r9 := v }
  | .r10 => { f with r10 := v }

/-- The content of register `r` (R11, R46). -/
def State.reg (s : State) (r : Reg) : Option Word := s.regs.get r

/-- `x[r] <- v` (R11). -/
def State.setReg (s : State) (r : Reg) (v : Word) : State := { s with regs := s.regs.put r (some v) }

/-- `pc <- pc + n` (R49). -/
def State.skip (s : State) (n : Int) : State := { s with pc := s.pc + n }

/-- The read of a register by an instruction: `UnwrittenRegister` where it holds no value (R46, R543). -/
def readReg (s : State) (r : Reg) (rest : Word → Result) : Result :=
  match s.reg r with
  | some v => rest v
  | none => raise (.unwrittenRegister r)

/-! ## Program text -/

/-- The slot of `PROGRAM` at an index; none outside it (R48, R50). -/
def State.slotAt (s : State) (i : Int) : Option Slot :=
  if i < 0 then none else s.params.program[i.toNat]?

/-- The refused write to register 10 (R44), for a term that the decoder never answers: notes/assumptions/11.md. -/
def guardWrite (s : State) (r : Reg) (rest : Result) : Result :=
  if r.writable then rest else raise (.illegalEncoding s.pc (s.slotAt s.pc) .writesFramePointer)

/-! ## Memory: one byte -/

/-- The byte that a list of cells holds at an address. -/
def Memory.lookup : List Host.Cell → Nat → Option Byte
  | [], _ => none
  | c :: cs, a => if a = c.1 then some c.2 else Memory.lookup cs a

/-- The cells with one byte stored, kept in rising order of addresses. -/
def Memory.insert : List Host.Cell → Nat → Byte → List Host.Cell
  | [], a, b => [(a, b)]
  | c :: cs, a, b =>
    if a < c.1 then (a, b) :: c :: cs
    else if a = c.1 then (a, b) :: cs
    else c :: Memory.insert cs a b

/-- The defined value of the byte at an address, if it has one (R93). -/
def Memory.read (m : Memory) (a : Nat) : Option Byte := Memory.lookup m.cells a

/-- The memory with one byte stored. -/
def Memory.write (m : Memory) (a : Nat) (b : Byte) : Memory := { cells := Memory.insert m.cells a b }

/-- The memory with the bytes `bs` stored at `a`, `a + 1`, … -/
def Memory.writeBytes (m : Memory) (a : Nat) : List Byte → Memory
  | [] => m
  | b :: bs => (m.write a b).writeBytes (a + 1) bs

/-- The memory with the listed bytes stored, in order. -/
def Memory.writeCells (m : Memory) : List (Nat × Byte) → Memory
  | [] => m
  | c :: cs => (m.write c.1 c.2).writeCells cs

/-! ## Memory: what a read is sure to give -/

/-- The value that a read of the byte at `a` is sure to give: none for a byte with no defined value (R93) and for a byte
that other agents may change (R97), which they may do between the byte accesses of one load too. -/
def State.byteAt (s : State) (a : Nat) : Option Byte :=
  if s.params.interferes a then none else s.mem.read a

/-! ## Memory: an access of n bytes -/

/-- The widths of R85. -/
inductive Size where
  | b
  | h
  | w
  | dw
deriving DecidableEq, Repr

/-- The number of bytes of a width (R85, R150). -/
def Size.bytes : Size → Nat
  | .b => 1
  | .h => 2
  | .w => 4
  | .dw => 8

/-- The number whose `k`-th least significant byte is the `k`-th of the list. -/
def wordOfBytes : List Byte → Word
  | [] => 0#64
  | b :: bs => (wordOfBytes bs <<< 8) ||| b.setWidth 64

/-- Byte `k` of a word: `v[8k+7:8k]`. -/
def byteOfWord (v : Word) (k : Nat) : Byte := v.extractLsb' (8 * k) 8

/-- The value that bytes at rising addresses stand for (R82), zero-extended. -/
def assemble (e : Endian) (bs : List Byte) : Word :=
  match e with
  | .little => wordOfBytes bs
  | .big => wordOfBytes bs.reverse

/-- The low `n` bytes of a value, at rising addresses (R82). -/
def disassemble (e : Endian) (n : Nat) (v : Word) : List Byte :=
  match e with
  | .little => (List.range n).map (byteOfWord v)
  | .big => ((List.range n).map (byteOfWord v)).reverse

/-- The bytes that a read of `n` bytes at `a` gives: where a byte has no sure value, an arbitrary one drawn for this read
(R93, R97). -/
def State.readBytes (s : State) (a n : Nat) : List Byte :=
  (List.range n).map fun k => (s.byteAt (a + k)).getD (Config.drawnByte (s.draws + k))

/-- The value of `MemRead(addr, n)` after its checks (R12, R82). -/
def State.load (s : State) (a : Nat) (n : Nat) : Word := assemble s.params.endian (s.readBytes a n)

/-- The state after a read of `n` bytes: the next read draws anew (R93). -/
def State.drew (s : State) (n : Nat) : State := { s with draws := s.draws + n }

/-- `MemWrite(addr, n, v)` after its checks (R12, R82). -/
def State.store (s : State) (a n : Nat) (v : Word) : State :=
  { s with mem := s.mem.writeBytes a (disassemble s.params.endian n v) }

/-- The checks of an access (R87, R88, R91): alignment where `aligned` asks for it, then admission. -/
def checkAccess (s : State) (aligned : Bool) (kind : AccessKind) (addr : Word) (n : Nat) (rest : Result) : Result :=
  if aligned ∧ addr.toNat % n ≠ 0 then raise (.misalignedAccess addr n)
  else if s.params.admits kind addr.toNat n then rest
  else raise (.memFault addr n kind)

/-! ## Calls -/

/-- The number of active functions (R405): the entry function and one for each frame. -/
def State.activeFunctions (s : State) : Nat := 1 + s.frames.length

/-- The frame that a program-local call pushes (R407): return slot `pc + 1`, registers 6 to 9, and register 10's value. -/
def State.callFrame (s : State) (fp : Word) : Frame where
  ret := s.pc + 1
  x6 := s.regs.r6
  x7 := s.regs.r7
  x8 := s.regs.r8
  x9 := s.regs.r9
  fp := fp

/-- The registers of a callee (R404, R407): 0 and 6 to 9 hold no value, 1 to 5 pass through, 10 is the callee's own. -/
def RegFile.enter (f : RegFile) (fp : Word) : RegFile :=
  { f with r0 := none, r6 := none, r7 := none, r8 := none, r9 := none, r10 := some fp }

/-- The registers of the caller after a return (R404, R409): 6 to 10 from the frame, 1 to 5 without a value, 0 as the
callee left it. -/
def RegFile.leave (f : RegFile) (fr : Frame) : RegFile :=
  { f with
    r1 := none, r2 := none, r3 := none, r4 := none, r5 := none
    r6 := fr.x6, r7 := fr.x7, r8 := fr.x8, r9 := fr.x9, r10 := some fr.fp }

/-- The registers after a helper call (R403): 0 holds the result, 1 to 5 hold no value. -/
def RegFile.afterHelper (f : RegFile) (r0 : Option Word) : RegFile :=
  { f with r0 := r0, r1 := none, r2 := none, r3 := none, r4 := none, r5 := none }

/-! ## The platform -/

/-- The reads of argument registers by a helper, in its order: `UnwrittenRegister` for one that holds no value (R403). -/
def readArgs (s : State) : List ArgReg → Result → Result
  | [], rest => rest
  | a :: as, rest => readReg s a.reg fun _ => readArgs s as rest

/-- A call in `s` belongs to a case of a helper relation (R403): registers 1 to 5 and memory hold what the case lists. -/
def State.meets (s : State) (c : HelperCase) : Bool :=
  c.args.all (fun a => s.reg a.1.reg == a.2) && c.bytes.all fun b => s.mem.read b.1 == b.2

/-- The reply of a helper to this call (R403): that of one of the cases the call belongs to, whichever comes; any reply
where it belongs to none. -/
def State.helperReply (s : State) (h : Helper) : HelperReply :=
  match h.cases.filter s.meets with
  | [] => Config.helperReply h.kind h.id [s.regs.r1, s.regs.r2, s.regs.r3, s.regs.r4, s.regs.r5] s.mem.cells s.calls
  | [c] => c.reply
  | c :: cs => ((c :: cs).getD (Config.helperChoice s.calls % (cs.length + 1)) c).reply

/-- A helper writes writable bytes only (R403, R406): the first listed byte that is not writable is a `MemFault`. -/
def checkWrites (s : State) : List (Nat × Byte) → Result → Result
  | [], rest => rest
  | c :: cs, rest =>
    if s.params.admits .write c.1 1 then checkWrites s cs rest
    else raise (.memFault (BitVec.ofNat 64 c.1) 1 .write)

/-- A platform function at an argument: `PlatformUndefined(subtype, imm)` where it is undefined (R511, R549). -/
def platform (value : Option Word) (subtype : BitVec 4) (imm : Word32) (rest : Word → Result) : Result :=
  match value with
  | some v => rest v
  | none => raise (.platformUndefined subtype imm)

/-! ## Other agents -/

/-- The other agents' turn after a step (R97): where `EXTERNAL_AGENTS` holds they write any bytes of shared regions, and
nothing else changes. They have none after the end of the run, which leaves memory as it is (R608).
notes/assumptions/6.md. -/
def State.othersAct (s : State) : State :=
  if s.params.externalAgents ∧ s.status = .running then
    { s with
      mem := s.mem.writeCells <|
        (Config.othersWrite s.turns s.mem.cells).filter fun c => decide (c.1 < 2 ^ 64) && s.params.interferes c.1
      turns := s.turns + 1 }
  else s

/-- A completed instruction is followed by the other agents' turn; a fault changes nothing (R541). -/
def othersFollow : Result → Result
  | .next t => .next t.othersAct
  | .fault k => .fault k
  | .refused r => .refused r

end Sys2Proof.Machine
end

