-- ==== Sys2Proof/Machine/Flags.lean ====
section
/-! DEFINITION. The machine has no flags: no instruction sets or reads one (R51). What other machines take from flags, a
conditional jump computes from its two operands: the conditions of R320, at 64 bits (R323) and at 32 bits (R362). -/

namespace Sys2Proof.Machine

/-- BPF_JEQ. -/
def condEq {n : Nat} (a b : BitVec n) : Bool := decide (a = b)

/-- BPF_JNE. -/
def condNe {n : Nat} (a b : BitVec n) : Bool := decide (a ≠ b)

/-- BPF_JGT, unsigned. -/
def condGt {n : Nat} (a b : BitVec n) : Bool := decide (a.toNat > b.toNat)

/-- BPF_JGE, unsigned. -/
def condGe {n : Nat} (a b : BitVec n) : Bool := decide (a.toNat ≥ b.toNat)

/-- BPF_JLT, unsigned. -/
def condLt {n : Nat} (a b : BitVec n) : Bool := decide (a.toNat < b.toNat)

/-- BPF_JLE, unsigned. -/
def condLe {n : Nat} (a b : BitVec n) : Bool := decide (a.toNat ≤ b.toNat)

/-- BPF_JSET: a common bit. -/
def condSet {n : Nat} (a b : BitVec n) : Bool := decide (a &&& b ≠ 0#n)

/-- BPF_JSGT, signed. -/
def condSgt {n : Nat} (a b : BitVec n) : Bool := decide (a.toInt > b.toInt)

/-- BPF_JSGE, signed. -/
def condSge {n : Nat} (a b : BitVec n) : Bool := decide (a.toInt ≥ b.toInt)

/-- BPF_JSLT, signed. -/
def condSlt {n : Nat} (a b : BitVec n) : Bool := decide (a.toInt < b.toInt)

/-- BPF_JSLE, signed. -/
def condSle {n : Nat} (a b : BitVec n) : Bool := decide (a.toInt ≤ b.toInt)

end Sys2Proof.Machine
end

