-- ==== Sys2Proof/Machine/Operands.lean ====
section
/-! DEFINITION. The arithmetic of R9 and R10, and every operand form: what a form reads, in which order, and where its
result goes. A meaning is one of these forms applied to one function. -/

namespace Sys2Proof.Machine

/-! ## Arithmetic (R9) -/

/-- Unsigned division; 0 for a zero divisor (R203, R253). -/
def udivOrZero {n : Nat} (a b : BitVec n) : BitVec n :=
  if b = 0#n then 0#n else BitVec.ofNat n (a.toNat / b.toNat)

/-- Unsigned modulo; the dividend for a zero divisor (R203, R253). -/
def umodOrSame {n : Nat} (a b : BitVec n) : BitVec n :=
  if b = 0#n then a else BitVec.ofNat n (a.toNat - b.toNat * (a.toNat / b.toNat))

/-- Signed division rounding toward zero, wrapped (R9, R204, R254); 0 for a zero divisor. -/
def sdivOrZero {n : Nat} (a b : BitVec n) : BitVec n :=
  if b = 0#n then 0#n else BitVec.ofInt n (a.toInt.tdiv b.toInt)

/-- Signed modulo `a - b * trunc(a / b)`, wrapped (R9, R204, R254); the dividend for a zero divisor. -/
def smodOrSame {n : Nat} (a b : BitVec n) : BitVec n :=
  if b = 0#n then a else BitVec.ofInt n (a.toInt - b.toInt * a.toInt.tdiv b.toInt)

/-- The shift count of a 64-bit operation: `b[5:0]` (R205). -/
def count64 (b : Word) : Nat := (b.extractLsb' 0 6).toNat

/-- The shift count of a 32-bit operation: `b[4:0]` (R255). -/
def count32 (b : Word32) : Nat := (b.extractLsb' 0 5).toNat

/-! ## Byte order functions (R10) -/

/-- `bswap16`. -/
def bswap16 (v : BitVec 16) : BitVec 16 := v.extractLsb' 0 8 ++ v.extractLsb' 8 8

/-- `bswap32`. -/
def bswap32 (v : BitVec 32) : BitVec 32 :=
  v.extractLsb' 0 8 ++ v.extractLsb' 8 8 ++ v.extractLsb' 16 8 ++ v.extractLsb' 24 8

/-- `bswap64`. -/
def bswap64 (v : BitVec 64) : BitVec 64 :=
  v.extractLsb' 0 8 ++ v.extractLsb' 8 8 ++ v.extractLsb' 16 8 ++ v.extractLsb' 24 8 ++
    v.extractLsb' 32 8 ++ v.extractLsb' 40 8 ++ v.extractLsb' 48 8 ++ v.extractLsb' 56 8

/-- `htoleN`, from the swap of that width: the identity on a little-endian platform. -/
def toLittle {n : Nat} (swap : BitVec n → BitVec n) (e : Endian) (v : BitVec n) : BitVec n :=
  match e with
  | .little => v
  | .big => swap v

/-- `htobeN`, from the swap of that width: the identity on a big-endian platform. -/
def toBig {n : Nat} (swap : BitVec n → BitVec n) (e : Endian) (v : BitVec n) : BitVec n :=
  match e with
  | .little => swap v
  | .big => v

/-! ## Widths -/

/-- The low 32 bits of a register value (R47). -/
def low32 (v : Word) : Word32 := v.setWidth 32

/-- `zext_64` of a 32-bit result (R47, R250). -/
def zext (v : Word32) : Word := v.setWidth 64

/-- `sext_64(imm)` (R147). -/
def sextImm (imm : Word32) : Word := imm.signExtend 64

/-! ## Arithmetic forms (R201, R251, R302) -/

/-- `x[dst] <- v; pc <- pc + 1`. -/
def writeBack (dst : Reg) (v : Word) (s : State) : Result := .next ((s.setReg dst v).skip 1)

/-- ALU64 with BPF_K: `x[dst] <- f x[dst] (sext_64 imm)`. -/
def alu64K (f : Word → Word → Word) (dst : Reg) (imm : Word32) (s : State) : Result :=
  guardWrite s dst <| readReg s dst fun a => writeBack dst (f a (sextImm imm)) s

/-- ALU64 with BPF_X: `x[dst] <- f x[dst] x[src]`, `dst` read first. -/
def alu64X (f : Word → Word → Word) (dst src : Reg) (s : State) : Result :=
  guardWrite s dst <| readReg s dst fun a => readReg s src fun b => writeBack dst (f a b) s

/-- ALU with BPF_K: low halves, `imm` as it stands, the result zero-extended. -/
def alu32K (f : Word32 → Word32 → Word32) (dst : Reg) (imm : Word32) (s : State) : Result :=
  guardWrite s dst <| readReg s dst fun a => writeBack dst (zext (f (low32 a) imm)) s

/-- ALU with BPF_X: low halves, the result zero-extended. -/
def alu32X (f : Word32 → Word32 → Word32) (dst src : Reg) (s : State) : Result :=
  guardWrite s dst <| readReg s dst fun a => readReg s src fun b =>
    writeBack dst (zext (f (low32 a) (low32 b))) s

/-- An operation on the destination alone (BPF_NEG, BPF_END). -/
def aluUnary (f : Word → Word) (dst : Reg) (s : State) : Result :=
  guardWrite s dst <| readReg s dst fun a => writeBack dst (f a) s

/-- BPF_MOV with BPF_K: `dst` is not read. -/
def moveK (v : Word) (dst : Reg) (s : State) : Result :=
  guardWrite s dst <| writeBack dst v s

/-- BPF_MOV and BPF_MOVSX with BPF_X: `dst` is not read. -/
def moveX (f : Word → Word) (dst src : Reg) (s : State) : Result :=
  guardWrite s dst <| readReg s src fun b => writeBack dst (f b) s

/-! ## Jump forms (R321, R322, R361, R362) -/

/-- `if taken then pc <- pc + 1 + displacement else pc <- pc + 1`. -/
def branch (taken : Bool) (displacement : Int) (s : State) : Result :=
  .next (s.skip (if taken then 1 + displacement else 1))

/-- A conditional jump of class BPF_JMP with BPF_K. -/
def jump64K (cond : Word → Word → Bool) (dst : Reg) (imm : Word32) (offset : BitVec 16) (s : State) : Result :=
  readReg s dst fun a => branch (cond a (sextImm imm)) offset.toInt s

/-- A conditional jump of class BPF_JMP with BPF_X: both registers are read, `dst` first. -/
def jump64X (cond : Word → Word → Bool) (dst src : Reg) (offset : BitVec 16) (s : State) : Result :=
  readReg s dst fun a => readReg s src fun b => branch (cond a b) offset.toInt s

/-- A conditional jump of class BPF_JMP32 with BPF_K. -/
def jump32K (cond : Word32 → Word32 → Bool) (dst : Reg) (imm : Word32) (offset : BitVec 16) (s : State) : Result :=
  readReg s dst fun a => branch (cond (low32 a) imm) offset.toInt s

/-- A conditional jump of class BPF_JMP32 with BPF_X. -/
def jump32X (cond : Word32 → Word32 → Bool) (dst src : Reg) (offset : BitVec 16) (s : State) : Result :=
  readReg s dst fun a => readReg s src fun b => branch (cond (low32 a) (low32 b)) offset.toInt s

/-! ## Memory forms (R86, R433, R474) -/

/-- `addr = (x[base] + sext_64(offset)) mod 2^64` (R86). -/
def effectiveAddress (base : Word) (offset : BitVec 16) : Word := base + offset.signExtend 64

/-- A load: `ext` is the extension of the bytes read, which stand zero-extended in its argument (R431, R447). -/
def loadForm (size : Size) (ext : Word → Word) (dst src : Reg) (offset : BitVec 16) (s : State) : Result :=
  guardWrite s dst <| readReg s src fun base =>
    let addr := effectiveAddress base offset
    checkAccess s s.params.strictAlign .read addr size.bytes <|
      writeBack dst (ext (s.load addr.toNat size.bytes)) (s.drew size.bytes)

/-- A store of a value to `x[dst] + offset`; the value's low bytes are stored (R432, R434). -/
def storeAt (size : Size) (base : Word) (offset : BitVec 16) (v : Word) (s : State) : Result :=
  let addr := effectiveAddress base offset
  checkAccess s s.params.strictAlign .write addr size.bytes <|
    .next ((s.store addr.toNat size.bytes v).skip 1)

/-- A store of an immediate. At 8 bytes the value is `sext_64(imm)`, at fewer the low bytes of `imm` (R434). -/
def storeImm (size : Size) (dst : Reg) (offset : BitVec 16) (imm : Word32) (s : State) : Result :=
  readReg s dst fun base => storeAt size base offset (sextImm imm) s

/-- A store of a register: the base is read first, then `src` (R433). -/
def storeReg (size : Size) (dst src : Reg) (offset : BitVec 16) (s : State) : Result :=
  readReg s dst fun base => readReg s src fun v => storeAt size base offset v s

/-- `AtomicRMW(addr, n, f)` (R12, R98) with the checks of R88 and R91; what follows gets the old value and the state
after the write. -/
def atomicRmw (size : Size) (base : Word) (offset : BitVec 16) (f : Word → Word) (s : State)
    (rest : Word → State → Result) : Result :=
  let addr := effectiveAddress base offset
  checkAccess s true .readWrite addr size.bytes <|
    let old := s.load addr.toNat size.bytes
    rest old ((s.drew size.bytes).store addr.toNat size.bytes (f old))

/-- A 64-bit operation on memory that returns nothing (R472). -/
def atomic64 (f : Word → Word → Word) (dst src : Reg) (offset : BitVec 16) (s : State) : Result :=
  readReg s dst fun base => readReg s src fun v =>
    atomicRmw .dw base offset (fun o => f o v) s fun _ t => .next (t.skip 1)

/-- A 64-bit operation on memory that returns the old value in `src` (R473). -/
def atomicFetch64 (f : Word → Word → Word) (dst src : Reg) (offset : BitVec 16) (s : State) : Result :=
  guardWrite s src <| readReg s dst fun base => readReg s src fun v =>
    atomicRmw .dw base offset (fun o => f o v) s fun o t => writeBack src o t

/-- A 32-bit operation on memory that returns nothing (R472, R475). -/
def atomic32 (f : Word32 → Word32 → Word32) (dst src : Reg) (offset : BitVec 16) (s : State) : Result :=
  readReg s dst fun base => readReg s src fun v =>
    atomicRmw .w base offset (fun o => zext (f (low32 o) (low32 v))) s fun _ t => .next (t.skip 1)

/-- A 32-bit operation on memory that returns the old value, zero-extended, in `src` (R473, R475). -/
def atomicFetch32 (f : Word32 → Word32 → Word32) (dst src : Reg) (offset : BitVec 16) (s : State) : Result :=
  guardWrite s src <| readReg s dst fun base => readReg s src fun v =>
    atomicRmw .w base offset (fun o => zext (f (low32 o) (low32 v))) s fun o t => writeBack src (zext (low32 o)) t

/-! ## Platform forms -/

/-- A helper call (R403, R406, R408): the key, then the argument registers that this reply reads, then its outcome. -/
def callHelperForm (kind : HelperKind) (imm : Word32) (s : State) : Result :=
  match s.params.helper kind imm with
  | none => raise (.unknownHelper kind imm)
  | some h =>
    readArgs s (s.helperReply h).reads <|
      match (s.helperReply h).outcome with
      | .failed why => raise why.fault
      | .result r0 writes =>
        checkWrites s writes <|
          .next { s with
            regs := s.regs.afterHelper r0
            mem := s.mem.writeCells writes
            calls := s.calls + 1
            pc := s.pc + 1 }

/-- The end of a 64-bit immediate instruction: `x[dst] <- v; pc <- pc + 2` (R512). -/
def writeWide (dst : Reg) (v : Word) (s : State) : Result := .next ((s.setReg dst v).skip 2)

/-- A 64-bit immediate instruction that asks one platform function (R511, R513). -/
def wideForm (value : Option Word) (subtype : BitVec 4) (dst : Reg) (imm : Word32) (s : State) : Result :=
  guardWrite s dst <| platform value subtype imm fun v => writeWide dst v s

/-- `map_val(map) +_64 zext_64(next_imm)` (R512); undefined where the map or its value is. -/
def mapValue (s : State) (map : Option Word) (nextImm : Word32) : Option Word :=
  match map with
  | none => none
  | some m =>
    match s.params.mapVal.lookup m with
    | none => none
    | some v => some (v + nextImm.setWidth 64)

end Sys2Proof.Machine
end

