-- ==== Sys2Proof/Machine/Alu32.lean ====
section
/-! DEFINITION. 32-bit arithmetic, class BPF_ALU (41_alu32.md). One meaning per instruction. -/

namespace Sys2Proof.Machine

/-- `add32_imm` (R256): `a +_32 b`, `a = x[dst][31:0]`, `b = imm`, zero-extended. -/
def execAdd32Imm (dst : Reg) (imm : Word32) (s : State) : Result :=
  alu32K (fun a b => a + b) dst imm s

/-- `add32_reg` (R257): `a +_32 b`, `a = x[dst][31:0]`, `b = x[src][31:0]`, zero-extended. -/
def execAdd32Reg (dst src : Reg) (s : State) : Result :=
  alu32X (fun a b => a + b) dst src s

/-- `sub32_imm` (R258): `a -_32 b`, `a = x[dst][31:0]`, `b = imm`, zero-extended. -/
def execSub32Imm (dst : Reg) (imm : Word32) (s : State) : Result :=
  alu32K (fun a b => a - b) dst imm s

/-- `sub32_reg` (R259): `a -_32 b`, `a = x[dst][31:0]`, `b = x[src][31:0]`, zero-extended. -/
def execSub32Reg (dst src : Reg) (s : State) : Result :=
  alu32X (fun a b => a - b) dst src s

/-- `mul32_imm` (R260): `a *_32 b`, `a = x[dst][31:0]`, `b = imm`, zero-extended. -/
def execMul32Imm (dst : Reg) (imm : Word32) (s : State) : Result :=
  alu32K (fun a b => a * b) dst imm s

/-- `mul32_reg` (R261): `a *_32 b`, `a = x[dst][31:0]`, `b = x[src][31:0]`, zero-extended. -/
def execMul32Reg (dst src : Reg) (s : State) : Result :=
  alu32X (fun a b => a * b) dst src s

/-- `div32_imm` (R262): `if b = 0 then 0 else udiv(a, b)`, `a = x[dst][31:0]`, `b = imm`, zero-extended. -/
def execDiv32Imm (dst : Reg) (imm : Word32) (s : State) : Result :=
  alu32K udivOrZero dst imm s

/-- `div32_reg` (R263): `if b = 0 then 0 else udiv(a, b)`, `a = x[dst][31:0]`, `b = x[src][31:0]`, zero-extended. -/
def execDiv32Reg (dst src : Reg) (s : State) : Result :=
  alu32X udivOrZero dst src s

/-- `sdiv32_imm` (R264): `if b = 0 then 0 else sdiv(a, b)`, `a = x[dst][31:0]`, `b = imm`, zero-extended. -/
def execSdiv32Imm (dst : Reg) (imm : Word32) (s : State) : Result :=
  alu32K sdivOrZero dst imm s

/-- `sdiv32_reg` (R265): `if b = 0 then 0 else sdiv(a, b)`, `a = x[dst][31:0]`, `b = x[src][31:0]`, zero-extended. -/
def execSdiv32Reg (dst src : Reg) (s : State) : Result :=
  alu32X sdivOrZero dst src s

/-- `or32_imm` (R266): `a | b`, `a = x[dst][31:0]`, `b = imm`, zero-extended. -/
def execOr32Imm (dst : Reg) (imm : Word32) (s : State) : Result :=
  alu32K (fun a b => a ||| b) dst imm s

/-- `or32_reg` (R267): `a | b`, `a = x[dst][31:0]`, `b = x[src][31:0]`, zero-extended. -/
def execOr32Reg (dst src : Reg) (s : State) : Result :=
  alu32X (fun a b => a ||| b) dst src s

/-- `and32_imm` (R268): `a & b`, `a = x[dst][31:0]`, `b = imm`, zero-extended. -/
def execAnd32Imm (dst : Reg) (imm : Word32) (s : State) : Result :=
  alu32K (fun a b => a &&& b) dst imm s

/-- `and32_reg` (R269): `a & b`, `a = x[dst][31:0]`, `b = x[src][31:0]`, zero-extended. -/
def execAnd32Reg (dst src : Reg) (s : State) : Result :=
  alu32X (fun a b => a &&& b) dst src s

/-- `lsh32_imm` (R270): `a << k`, `a = x[dst][31:0]`, `b = imm`, `k = b[4:0]`, zero-extended. -/
def execLsh32Imm (dst : Reg) (imm : Word32) (s : State) : Result :=
  alu32K (fun a b => a <<< count32 b) dst imm s

/-- `lsh32_reg` (R271): `a << k`, `a = x[dst][31:0]`, `b = x[src][31:0]`, `k = b[4:0]`, zero-extended. -/
def execLsh32Reg (dst src : Reg) (s : State) : Result :=
  alu32X (fun a b => a <<< count32 b) dst src s

/-- `rsh32_imm` (R272): `a >>u k`, `a = x[dst][31:0]`, `b = imm`, `k = b[4:0]`, zero-extended. -/
def execRsh32Imm (dst : Reg) (imm : Word32) (s : State) : Result :=
  alu32K (fun a b => a >>> count32 b) dst imm s

/-- `rsh32_reg` (R273): `a >>u k`, `a = x[dst][31:0]`, `b = x[src][31:0]`, `k = b[4:0]`, zero-extended. -/
def execRsh32Reg (dst src : Reg) (s : State) : Result :=
  alu32X (fun a b => a >>> count32 b) dst src s

/-- `neg32` (R274): `0 -_32 x[dst][31:0]`, zero-extended. -/
def execNeg32 (dst : Reg) (s : State) : Result :=
  aluUnary (fun a => zext (0#32 - low32 a)) dst s

/-- `mod32_imm` (R275): `if b = 0 then a else umod(a, b)`, `a = x[dst][31:0]`, `b = imm`, zero-extended. -/
def execMod32Imm (dst : Reg) (imm : Word32) (s : State) : Result :=
  alu32K umodOrSame dst imm s

/-- `mod32_reg` (R276): `if b = 0 then a else umod(a, b)`, `a = x[dst][31:0]`, `b = x[src][31:0]`, zero-extended. -/
def execMod32Reg (dst src : Reg) (s : State) : Result :=
  alu32X umodOrSame dst src s

/-- `smod32_imm` (R277): `if b = 0 then a else smod(a, b)`, `a = x[dst][31:0]`, `b = imm`, zero-extended. -/
def execSmod32Imm (dst : Reg) (imm : Word32) (s : State) : Result :=
  alu32K smodOrSame dst imm s

/-- `smod32_reg` (R278): `if b = 0 then a else smod(a, b)`, `a = x[dst][31:0]`, `b = x[src][31:0]`, zero-extended. -/
def execSmod32Reg (dst src : Reg) (s : State) : Result :=
  alu32X smodOrSame dst src s

/-- `xor32_imm` (R279): `a ^ b`, `a = x[dst][31:0]`, `b = imm`, zero-extended. -/
def execXor32Imm (dst : Reg) (imm : Word32) (s : State) : Result :=
  alu32K (fun a b => a ^^^ b) dst imm s

/-- `xor32_reg` (R280): `a ^ b`, `a = x[dst][31:0]`, `b = x[src][31:0]`, zero-extended. -/
def execXor32Reg (dst src : Reg) (s : State) : Result :=
  alu32X (fun a b => a ^^^ b) dst src s

/-- `mov32_imm` (R281): `zext_64(imm)`. -/
def execMov32Imm (dst : Reg) (imm : Word32) (s : State) : Result :=
  moveK (zext imm) dst s

/-- `mov32_reg` (R282): `zext_64(x[src][31:0])`. -/
def execMov32Reg (dst src : Reg) (s : State) : Result :=
  moveX (fun b => zext (low32 b)) dst src s

/-- `movsx32_8` (R283): `zext_64(sext_32(x[src][7:0]))`. -/
def execMovsx32From8 (dst src : Reg) (s : State) : Result :=
  moveX (fun b => zext ((b.setWidth 8).signExtend 32)) dst src s

/-- `movsx32_16` (R284): `zext_64(sext_32(x[src][15:0]))`. -/
def execMovsx32From16 (dst src : Reg) (s : State) : Result :=
  moveX (fun b => zext ((b.setWidth 16).signExtend 32)) dst src s

/-- `arsh32_imm` (R285): `a >>s k`, `a = x[dst][31:0]`, `b = imm`, `k = b[4:0]`, zero-extended. -/
def execArsh32Imm (dst : Reg) (imm : Word32) (s : State) : Result :=
  alu32K (fun a b => a.sshiftRight (count32 b)) dst imm s

/-- `arsh32_reg` (R286): `a >>s k`, `a = x[dst][31:0]`, `b = x[src][31:0]`, `k = b[4:0]`, zero-extended. -/
def execArsh32Reg (dst src : Reg) (s : State) : Result :=
  alu32X (fun a b => a.sshiftRight (count32 b)) dst src s

end Sys2Proof.Machine
end

