-- ==== Sys2Proof/Machine/Alu64.lean ====
section
/-! DEFINITION. 64-bit arithmetic, class BPF_ALU64 (40_alu64.md). One meaning per instruction. -/

namespace Sys2Proof.Machine

/-- `add64_imm` (R206): `a +_64 b`, `a = x[dst]`, `b = sext_64(imm)`. -/
def execAdd64Imm (dst : Reg) (imm : Word32) (s : State) : Result :=
  alu64K (fun a b => a + b) dst imm s

/-- `add64_reg` (R207): `a +_64 b`, `a = x[dst]`, `b = x[src]`. -/
def execAdd64Reg (dst src : Reg) (s : State) : Result :=
  alu64X (fun a b => a + b) dst src s

/-- `sub64_imm` (R208): `a -_64 b`, `a = x[dst]`, `b = sext_64(imm)`. -/
def execSub64Imm (dst : Reg) (imm : Word32) (s : State) : Result :=
  alu64K (fun a b => a - b) dst imm s

/-- `sub64_reg` (R209): `a -_64 b`, `a = x[dst]`, `b = x[src]`. -/
def execSub64Reg (dst src : Reg) (s : State) : Result :=
  alu64X (fun a b => a - b) dst src s

/-- `mul64_imm` (R210): `a *_64 b`, `a = x[dst]`, `b = sext_64(imm)`. -/
def execMul64Imm (dst : Reg) (imm : Word32) (s : State) : Result :=
  alu64K (fun a b => a * b) dst imm s

/-- `mul64_reg` (R211): `a *_64 b`, `a = x[dst]`, `b = x[src]`. -/
def execMul64Reg (dst src : Reg) (s : State) : Result :=
  alu64X (fun a b => a * b) dst src s

/-- `div64_imm` (R212): `if b = 0 then 0 else udiv(a, b)`, `a = x[dst]`, `b = sext_64(imm)`. -/
def execDiv64Imm (dst : Reg) (imm : Word32) (s : State) : Result :=
  alu64K udivOrZero dst imm s

/-- `div64_reg` (R213): `if b = 0 then 0 else udiv(a, b)`, `a = x[dst]`, `b = x[src]`. -/
def execDiv64Reg (dst src : Reg) (s : State) : Result :=
  alu64X udivOrZero dst src s

/-- `sdiv64_imm` (R214): `if b = 0 then 0 else sdiv(a, b)`, `a = x[dst]`, `b = sext_64(imm)`. -/
def execSdiv64Imm (dst : Reg) (imm : Word32) (s : State) : Result :=
  alu64K sdivOrZero dst imm s

/-- `sdiv64_reg` (R215): `if b = 0 then 0 else sdiv(a, b)`, `a = x[dst]`, `b = x[src]`. -/
def execSdiv64Reg (dst src : Reg) (s : State) : Result :=
  alu64X sdivOrZero dst src s

/-- `or64_imm` (R216): `a | b`, `a = x[dst]`, `b = sext_64(imm)`. -/
def execOr64Imm (dst : Reg) (imm : Word32) (s : State) : Result :=
  alu64K (fun a b => a ||| b) dst imm s

/-- `or64_reg` (R217): `a | b`, `a = x[dst]`, `b = x[src]`. -/
def execOr64Reg (dst src : Reg) (s : State) : Result :=
  alu64X (fun a b => a ||| b) dst src s

/-- `and64_imm` (R218): `a & b`, `a = x[dst]`, `b = sext_64(imm)`. -/
def execAnd64Imm (dst : Reg) (imm : Word32) (s : State) : Result :=
  alu64K (fun a b => a &&& b) dst imm s

/-- `and64_reg` (R219): `a & b`, `a = x[dst]`, `b = x[src]`. -/
def execAnd64Reg (dst src : Reg) (s : State) : Result :=
  alu64X (fun a b => a &&& b) dst src s

/-- `lsh64_imm` (R220): `a << k`, `a = x[dst]`, `b = sext_64(imm)`, `k = b[5:0]`. -/
def execLsh64Imm (dst : Reg) (imm : Word32) (s : State) : Result :=
  alu64K (fun a b => a <<< count64 b) dst imm s

/-- `lsh64_reg` (R221): `a << k`, `a = x[dst]`, `b = x[src]`, `k = b[5:0]`. -/
def execLsh64Reg (dst src : Reg) (s : State) : Result :=
  alu64X (fun a b => a <<< count64 b) dst src s

/-- `rsh64_imm` (R222): `a >>u k`, `a = x[dst]`, `b = sext_64(imm)`, `k = b[5:0]`. -/
def execRsh64Imm (dst : Reg) (imm : Word32) (s : State) : Result :=
  alu64K (fun a b => a >>> count64 b) dst imm s

/-- `rsh64_reg` (R223): `a >>u k`, `a = x[dst]`, `b = x[src]`, `k = b[5:0]`. -/
def execRsh64Reg (dst src : Reg) (s : State) : Result :=
  alu64X (fun a b => a >>> count64 b) dst src s

/-- `neg64` (R224): `0 -_64 x[dst]`. -/
def execNeg64 (dst : Reg) (s : State) : Result :=
  aluUnary (fun a => 0#64 - a) dst s

/-- `mod64_imm` (R225): `if b = 0 then a else umod(a, b)`, `a = x[dst]`, `b = sext_64(imm)`. -/
def execMod64Imm (dst : Reg) (imm : Word32) (s : State) : Result :=
  alu64K umodOrSame dst imm s

/-- `mod64_reg` (R226): `if b = 0 then a else umod(a, b)`, `a = x[dst]`, `b = x[src]`. -/
def execMod64Reg (dst src : Reg) (s : State) : Result :=
  alu64X umodOrSame dst src s

/-- `smod64_imm` (R227): `if b = 0 then a else smod(a, b)`, `a = x[dst]`, `b = sext_64(imm)`. -/
def execSmod64Imm (dst : Reg) (imm : Word32) (s : State) : Result :=
  alu64K smodOrSame dst imm s

/-- `smod64_reg` (R228): `if b = 0 then a else smod(a, b)`, `a = x[dst]`, `b = x[src]`. -/
def execSmod64Reg (dst src : Reg) (s : State) : Result :=
  alu64X smodOrSame dst src s

/-- `xor64_imm` (R229): `a ^ b`, `a = x[dst]`, `b = sext_64(imm)`. -/
def execXor64Imm (dst : Reg) (imm : Word32) (s : State) : Result :=
  alu64K (fun a b => a ^^^ b) dst imm s

/-- `xor64_reg` (R230): `a ^ b`, `a = x[dst]`, `b = x[src]`. -/
def execXor64Reg (dst src : Reg) (s : State) : Result :=
  alu64X (fun a b => a ^^^ b) dst src s

/-- `mov64_imm` (R231): `sext_64(imm)`. -/
def execMov64Imm (dst : Reg) (imm : Word32) (s : State) : Result :=
  moveK (sextImm imm) dst s

/-- `mov64_reg` (R232): `x[src]`. -/
def execMov64Reg (dst src : Reg) (s : State) : Result :=
  moveX (fun b => b) dst src s

/-- `movsx64_8` (R233): `sext_64(x[src][7:0])`. -/
def execMovsx64From8 (dst src : Reg) (s : State) : Result :=
  moveX (fun b => (b.setWidth 8).signExtend 64) dst src s

/-- `movsx64_16` (R234): `sext_64(x[src][15:0])`. -/
def execMovsx64From16 (dst src : Reg) (s : State) : Result :=
  moveX (fun b => (b.setWidth 16).signExtend 64) dst src s

/-- `movsx64_32` (R235): `sext_64(x[src][31:0])`. -/
def execMovsx64From32 (dst src : Reg) (s : State) : Result :=
  moveX (fun b => (b.setWidth 32).signExtend 64) dst src s

/-- `arsh64_imm` (R236): `a >>s k`, `a = x[dst]`, `b = sext_64(imm)`, `k = b[5:0]`. -/
def execArsh64Imm (dst : Reg) (imm : Word32) (s : State) : Result :=
  alu64K (fun a b => a.sshiftRight (count64 b)) dst imm s

/-- `arsh64_reg` (R237): `a >>s k`, `a = x[dst]`, `b = x[src]`, `k = b[5:0]`. -/
def execArsh64Reg (dst src : Reg) (s : State) : Result :=
  alu64X (fun a b => a.sshiftRight (count64 b)) dst src s

end Sys2Proof.Machine
end

