-- ==== Sys2Proof/Machine/Atomic.lean ====
section
/-! DEFINITION. Atomic operations (47_atomic.md). One meaning per instruction. -/

namespace Sys2Proof.Machine

/-- `atomic_add32` (R477): memory `o` becomes `o +_32 v`, 4 bytes. -/
def execAtomicAdd32 (dst src : Reg) (offset : BitVec 16) (s : State) : Result :=
  atomic32 (fun o v => o + v) dst src offset s

/-- `atomic_fetch_add32` (R478): memory `o` becomes `o +_32 v`, `x[src] <- o`, 4 bytes. -/
def execAtomicFetchAdd32 (dst src : Reg) (offset : BitVec 16) (s : State) : Result :=
  atomicFetch32 (fun o v => o + v) dst src offset s

/-- `atomic_or32` (R479): memory `o` becomes `o | v`, 4 bytes. -/
def execAtomicOr32 (dst src : Reg) (offset : BitVec 16) (s : State) : Result :=
  atomic32 (fun o v => o ||| v) dst src offset s

/-- `atomic_fetch_or32` (R480): memory `o` becomes `o | v`, `x[src] <- o`, 4 bytes. -/
def execAtomicFetchOr32 (dst src : Reg) (offset : BitVec 16) (s : State) : Result :=
  atomicFetch32 (fun o v => o ||| v) dst src offset s

/-- `atomic_and32` (R481): memory `o` becomes `o & v`, 4 bytes. -/
def execAtomicAnd32 (dst src : Reg) (offset : BitVec 16) (s : State) : Result :=
  atomic32 (fun o v => o &&& v) dst src offset s

/-- `atomic_fetch_and32` (R482): memory `o` becomes `o & v`, `x[src] <- o`, 4 bytes. -/
def execAtomicFetchAnd32 (dst src : Reg) (offset : BitVec 16) (s : State) : Result :=
  atomicFetch32 (fun o v => o &&& v) dst src offset s

/-- `atomic_xor32` (R483): memory `o` becomes `o ^ v`, 4 bytes. -/
def execAtomicXor32 (dst src : Reg) (offset : BitVec 16) (s : State) : Result :=
  atomic32 (fun o v => o ^^^ v) dst src offset s

/-- `atomic_fetch_xor32` (R484): memory `o` becomes `o ^ v`, `x[src] <- o`, 4 bytes. -/
def execAtomicFetchXor32 (dst src : Reg) (offset : BitVec 16) (s : State) : Result :=
  atomicFetch32 (fun o v => o ^^^ v) dst src offset s

/-- `atomic_xchg32` (R485): memory `o` becomes `v`, `x[src] <- o`, 4 bytes. -/
def execAtomicXchg32 (dst src : Reg) (offset : BitVec 16) (s : State) : Result :=
  atomicFetch32 (fun _ v => v) dst src offset s

/-- `atomic_cmpxchg32` (R486): `o` is replaced by `x[src][31:0]` if `o = x[0][31:0]`, else
written back; `x[0] <- zext_64(o)`. -/
def execAtomicCmpxchg32 (dst src : Reg) (offset : BitVec 16) (s : State) : Result :=
  readReg s dst fun base => readReg s src fun v => readReg s .r0 fun c =>
    atomicRmw .w base offset (fun o => if low32 o = low32 c then zext (low32 v) else o) s fun o t =>
      writeBack .r0 (zext (low32 o)) t

/-- `atomic_add64` (R487): memory `o` becomes `o +_64 v`, 8 bytes. -/
def execAtomicAdd64 (dst src : Reg) (offset : BitVec 16) (s : State) : Result :=
  atomic64 (fun o v => o + v) dst src offset s

/-- `atomic_fetch_add64` (R488): memory `o` becomes `o +_64 v`, `x[src] <- o`, 8 bytes. -/
def execAtomicFetchAdd64 (dst src : Reg) (offset : BitVec 16) (s : State) : Result :=
  atomicFetch64 (fun o v => o + v) dst src offset s

/-- `atomic_or64` (R489): memory `o` becomes `o | v`, 8 bytes. -/
def execAtomicOr64 (dst src : Reg) (offset : BitVec 16) (s : State) : Result :=
  atomic64 (fun o v => o ||| v) dst src offset s

/-- `atomic_fetch_or64` (R490): memory `o` becomes `o | v`, `x[src] <- o`, 8 bytes. -/
def execAtomicFetchOr64 (dst src : Reg) (offset : BitVec 16) (s : State) : Result :=
  atomicFetch64 (fun o v => o ||| v) dst src offset s

/-- `atomic_and64` (R491): memory `o` becomes `o & v`, 8 bytes. -/
def execAtomicAnd64 (dst src : Reg) (offset : BitVec 16) (s : State) : Result :=
  atomic64 (fun o v => o &&& v) dst src offset s

/-- `atomic_fetch_and64` (R492): memory `o` becomes `o & v`, `x[src] <- o`, 8 bytes. -/
def execAtomicFetchAnd64 (dst src : Reg) (offset : BitVec 16) (s : State) : Result :=
  atomicFetch64 (fun o v => o &&& v) dst src offset s

/-- `atomic_xor64` (R493): memory `o` becomes `o ^ v`, 8 bytes. -/
def execAtomicXor64 (dst src : Reg) (offset : BitVec 16) (s : State) : Result :=
  atomic64 (fun o v => o ^^^ v) dst src offset s

/-- `atomic_fetch_xor64` (R494): memory `o` becomes `o ^ v`, `x[src] <- o`, 8 bytes. -/
def execAtomicFetchXor64 (dst src : Reg) (offset : BitVec 16) (s : State) : Result :=
  atomicFetch64 (fun o v => o ^^^ v) dst src offset s

/-- `atomic_xchg64` (R495): memory `o` becomes `v`, `x[src] <- o`, 8 bytes. -/
def execAtomicXchg64 (dst src : Reg) (offset : BitVec 16) (s : State) : Result :=
  atomicFetch64 (fun _ v => v) dst src offset s

/-- `atomic_cmpxchg64` (R496): `o` is replaced by `x[src]` if `o = x[0]`, else written back; `x[0] <- o`. -/
def execAtomicCmpxchg64 (dst src : Reg) (offset : BitVec 16) (s : State) : Result :=
  readReg s dst fun base => readReg s src fun v => readReg s .r0 fun c =>
    atomicRmw .dw base offset (fun o => if o = c then v else o) s fun o t => writeBack .r0 o t

end Sys2Proof.Machine
end

