-- ==== Sys2Proof/Machine/ByteSwap.lean ====
section
/-! DEFINITION. Byte swap, BPF_END (42_byteswap.md). One meaning per instruction. -/

namespace Sys2Proof.Machine

/-- `le16` (R303): `zext_64(htole16(x[dst][15:0]))`. -/
def execLe16 (dst : Reg) (s : State) : Result :=
  aluUnary (fun a => (toLittle bswap16 s.params.endian (a.setWidth 16)).setWidth 64) dst s

/-- `le32` (R304): `zext_64(htole32(x[dst][31:0]))`. -/
def execLe32 (dst : Reg) (s : State) : Result :=
  aluUnary (fun a => (toLittle bswap32 s.params.endian (a.setWidth 32)).setWidth 64) dst s

/-- `le64` (R305): `zext_64(htole64(x[dst][63:0]))`. -/
def execLe64 (dst : Reg) (s : State) : Result :=
  aluUnary (fun a => toLittle bswap64 s.params.endian a) dst s

/-- `be16` (R306): `zext_64(htobe16(x[dst][15:0]))`. -/
def execBe16 (dst : Reg) (s : State) : Result :=
  aluUnary (fun a => (toBig bswap16 s.params.endian (a.setWidth 16)).setWidth 64) dst s

/-- `be32` (R307): `zext_64(htobe32(x[dst][31:0]))`. -/
def execBe32 (dst : Reg) (s : State) : Result :=
  aluUnary (fun a => (toBig bswap32 s.params.endian (a.setWidth 32)).setWidth 64) dst s

/-- `be64` (R308): `zext_64(htobe64(x[dst][63:0]))`. -/
def execBe64 (dst : Reg) (s : State) : Result :=
  aluUnary (fun a => toBig bswap64 s.params.endian a) dst s

/-- `bswap16` (R309): `zext_64(bswap16(x[dst][15:0]))`. -/
def execBswap16 (dst : Reg) (s : State) : Result :=
  aluUnary (fun a => (bswap16 (a.setWidth 16)).setWidth 64) dst s

/-- `bswap32` (R310): `zext_64(bswap32(x[dst][31:0]))`. -/
def execBswap32 (dst : Reg) (s : State) : Result :=
  aluUnary (fun a => (bswap32 (a.setWidth 32)).setWidth 64) dst s

/-- `bswap64` (R311): `zext_64(bswap64(x[dst][63:0]))`. -/
def execBswap64 (dst : Reg) (s : State) : Result :=
  aluUnary (fun a => bswap64 a) dst s

end Sys2Proof.Machine
end

