-- ==== Sys2Proof/Machine/CallExit.lean ====
section
/-! DEFINITION. BPF_CALL and BPF_EXIT (45_call_exit.md). One meaning per instruction. -/

namespace Sys2Proof.Machine

/-- `call_helper` (R406): the helper of key (0, `imm`). -/
def execCallHelper (imm : Word32) (s : State) : Result :=
  callHelperForm .byAddress imm s

/-- `call_local` (R407): push the frame; registers 0 and 6 to 9 lose their values; `x[10] <- fp -_64 STACK_SIZE`;
`pc <- pc + 1 + sext_64(imm)`. -/
def execCallLocal (imm : Word32) (s : State) : Result :=
  if s.activeFunctions = s.params.maxCallDepth then raise (.callDepthExceeded s.pc)
  else readReg s .r10 fun fp =>
    .next { s with
      frames := s.callFrame fp :: s.frames
      regs := s.regs.enter (fp - BitVec.ofNat 64 s.params.stackSize)
      pc := s.pc + 1 + imm.toInt }

/-- `call_btf` (R408): the helper of key (2, `imm`). -/
def execCallBtf (imm : Word32) (s : State) : Result :=
  callHelperForm .byBtfId imm s

/-- `exit` (R409): with an empty call stack the run ends with `x[0]`, `pc` unchanged; else return to the caller. -/
def execExit (s : State) : Result :=
  readReg s .r0 fun v =>
    match s.frames with
    | [] => .next { s with status := .exited v }
    | fr :: rest => .next { s with frames := rest, regs := s.regs.leave fr, pc := fr.ret }

end Sys2Proof.Machine
end

