-- ==== Sys2Proof/Machine/Imm64.lean ====
section
/-! DEFINITION. 64-bit immediate instructions (48_imm64.md). One meaning per instruction. -/

namespace Sys2Proof.Machine

/-- `ld_imm64` (R514): `x[dst] <- next_imm ++ imm`. -/
def execLdImm64 (dst : Reg) (imm nextImm : Word32) (s : State) : Result :=
  guardWrite s dst <| writeWide dst (nextImm ++ imm) s

/-- `ld_map_fd` (R515): `x[dst] <- map_by_fd(imm)`. -/
def execLdMapFd (dst : Reg) (imm : Word32) (s : State) : Result :=
  wideForm (s.params.mapByFd.lookup imm) 1#4 dst imm s

/-- `ld_map_fd_val` (R516): `x[dst] <- map_val(map_by_fd(imm)) +_64 zext_64(next_imm)`. -/
def execLdMapFdVal (dst : Reg) (imm nextImm : Word32) (s : State) : Result :=
  wideForm (mapValue s (s.params.mapByFd.lookup imm) nextImm) 2#4 dst imm s

/-- `ld_var_addr` (R517): `x[dst] <- var_addr(imm)`. -/
def execLdVarAddr (dst : Reg) (imm : Word32) (s : State) : Result :=
  wideForm (s.params.varAddr.lookup imm) 3#4 dst imm s

/-- `ld_code_addr` (R518): `x[dst] <- code_addr(pc + 1 + sext_64(imm))`. -/
def execLdCodeAddr (dst : Reg) (imm : Word32) (s : State) : Result :=
  wideForm (s.params.codeAddr.lookup (s.pc + 1 + imm.toInt)) 4#4 dst imm s

/-- `ld_map_idx` (R519): `x[dst] <- map_by_idx(imm)`. -/
def execLdMapIdx (dst : Reg) (imm : Word32) (s : State) : Result :=
  wideForm (s.params.mapByIdx.lookup imm) 5#4 dst imm s

/-- `ld_map_idx_val` (R520): `x[dst] <- map_val(map_by_idx(imm)) +_64 zext_64(next_imm)`. -/
def execLdMapIdxVal (dst : Reg) (imm nextImm : Word32) (s : State) : Result :=
  wideForm (mapValue s (s.params.mapByIdx.lookup imm) nextImm) 6#4 dst imm s

end Sys2Proof.Machine
end

