-- ==== Sys2Proof/Machine/Jump32.lean ====
section
/-! DEFINITION. 32-bit jumps, class BPF_JMP32 (44_jump32.md). One meaning per instruction. -/

namespace Sys2Proof.Machine

/-- `ja32` (R364): `pc <- pc + 1 + sext_64(imm)`. -/
def execJa32 (imm : Word32) (s : State) : Result :=
  branch true imm.toInt s

/-- `jeq32_imm` (R365): taken if `a = b`, `a = x[dst][31:0]`, `b = imm`. -/
def execJeq32Imm (dst : Reg) (imm : Word32) (offset : BitVec 16) (s : State) : Result :=
  jump32K condEq dst imm offset s

/-- `jeq32_reg` (R366): taken if `a = b`, `a = x[dst][31:0]`, `b = x[src][31:0]`. -/
def execJeq32Reg (dst src : Reg) (offset : BitVec 16) (s : State) : Result :=
  jump32X condEq dst src offset s

/-- `jgt32_imm` (R367): taken if `u(a) > u(b)`, `a = x[dst][31:0]`, `b = imm`. -/
def execJgt32Imm (dst : Reg) (imm : Word32) (offset : BitVec 16) (s : State) : Result :=
  jump32K condGt dst imm offset s

/-- `jgt32_reg` (R368): taken if `u(a) > u(b)`, `a = x[dst][31:0]`, `b = x[src][31:0]`. -/
def execJgt32Reg (dst src : Reg) (offset : BitVec 16) (s : State) : Result :=
  jump32X condGt dst src offset s

/-- `jge32_imm` (R369): taken if `u(a) >= u(b)`, `a = x[dst][31:0]`, `b = imm`. -/
def execJge32Imm (dst : Reg) (imm : Word32) (offset : BitVec 16) (s : State) : Result :=
  jump32K condGe dst imm offset s

/-- `jge32_reg` (R370): taken if `u(a) >= u(b)`, `a = x[dst][31:0]`, `b = x[src][31:0]`. -/
def execJge32Reg (dst src : Reg) (offset : BitVec 16) (s : State) : Result :=
  jump32X condGe dst src offset s

/-- `jset32_imm` (R371): taken if `(a & b) != 0`, `a = x[dst][31:0]`, `b = imm`. -/
def execJset32Imm (dst : Reg) (imm : Word32) (offset : BitVec 16) (s : State) : Result :=
  jump32K condSet dst imm offset s

/-- `jset32_reg` (R372): taken if `(a & b) != 0`, `a = x[dst][31:0]`, `b = x[src][31:0]`. -/
def execJset32Reg (dst src : Reg) (offset : BitVec 16) (s : State) : Result :=
  jump32X condSet dst src offset s

/-- `jne32_imm` (R373): taken if `a != b`, `a = x[dst][31:0]`, `b = imm`. -/
def execJne32Imm (dst : Reg) (imm : Word32) (offset : BitVec 16) (s : State) : Result :=
  jump32K condNe dst imm offset s

/-- `jne32_reg` (R374): taken if `a != b`, `a = x[dst][31:0]`, `b = x[src][31:0]`. -/
def execJne32Reg (dst src : Reg) (offset : BitVec 16) (s : State) : Result :=
  jump32X condNe dst src offset s

/-- `jsgt32_imm` (R375): taken if `s(a) > s(b)`, `a = x[dst][31:0]`, `b = imm`. -/
def execJsgt32Imm (dst : Reg) (imm : Word32) (offset : BitVec 16) (s : State) : Result :=
  jump32K condSgt dst imm offset s

/-- `jsgt32_reg` (R376): taken if `s(a) > s(b)`, `a = x[dst][31:0]`, `b = x[src][31:0]`. -/
def execJsgt32Reg (dst src : Reg) (offset : BitVec 16) (s : State) : Result :=
  jump32X condSgt dst src offset s

/-- `jsge32_imm` (R377): taken if `s(a) >= s(b)`, `a = x[dst][31:0]`, `b = imm`. -/
def execJsge32Imm (dst : Reg) (imm : Word32) (offset : BitVec 16) (s : State) : Result :=
  jump32K condSge dst imm offset s

/-- `jsge32_reg` (R378): taken if `s(a) >= s(b)`, `a = x[dst][31:0]`, `b = x[src][31:0]`. -/
def execJsge32Reg (dst src : Reg) (offset : BitVec 16) (s : State) : Result :=
  jump32X condSge dst src offset s

/-- `jlt32_imm` (R379): taken if `u(a) < u(b)`, `a = x[dst][31:0]`, `b = imm`. -/
def execJlt32Imm (dst : Reg) (imm : Word32) (offset : BitVec 16) (s : State) : Result :=
  jump32K condLt dst imm offset s

/-- `jlt32_reg` (R380): taken if `u(a) < u(b)`, `a = x[dst][31:0]`, `b = x[src][31:0]`. -/
def execJlt32Reg (dst src : Reg) (offset : BitVec 16) (s : State) : Result :=
  jump32X condLt dst src offset s

/-- `jle32_imm` (R381): taken if `u(a) <= u(b)`, `a = x[dst][31:0]`, `b = imm`. -/
def execJle32Imm (dst : Reg) (imm : Word32) (offset : BitVec 16) (s : State) : Result :=
  jump32K condLe dst imm offset s

/-- `jle32_reg` (R382): taken if `u(a) <= u(b)`, `a = x[dst][31:0]`, `b = x[src][31:0]`. -/
def execJle32Reg (dst src : Reg) (offset : BitVec 16) (s : State) : Result :=
  jump32X condLe dst src offset s

/-- `jslt32_imm` (R383): taken if `s(a) < s(b)`, `a = x[dst][31:0]`, `b = imm`. -/
def execJslt32Imm (dst : Reg) (imm : Word32) (offset : BitVec 16) (s : State) : Result :=
  jump32K condSlt dst imm offset s

/-- `jslt32_reg` (R384): taken if `s(a) < s(b)`, `a = x[dst][31:0]`, `b = x[src][31:0]`. -/
def execJslt32Reg (dst src : Reg) (offset : BitVec 16) (s : State) : Result :=
  jump32X condSlt dst src offset s

/-- `jsle32_imm` (R385): taken if `s(a) <= s(b)`, `a = x[dst][31:0]`, `b = imm`. -/
def execJsle32Imm (dst : Reg) (imm : Word32) (offset : BitVec 16) (s : State) : Result :=
  jump32K condSle dst imm offset s

/-- `jsle32_reg` (R386): taken if `s(a) <= s(b)`, `a = x[dst][31:0]`, `b = x[src][31:0]`. -/
def execJsle32Reg (dst src : Reg) (offset : BitVec 16) (s : State) : Result :=
  jump32X condSle dst src offset s

end Sys2Proof.Machine
end

