-- ==== Sys2Proof/Machine/Jump64.lean ====
section
/-! DEFINITION. 64-bit jumps, class BPF_JMP (43_jump64.md). One meaning per instruction. -/

namespace Sys2Proof.Machine

/-- `ja` (R325): `pc <- pc + 1 + sext_64(offset)`. -/
def execJa (offset : BitVec 16) (s : State) : Result :=
  branch true offset.toInt s

/-- `jeq64_imm` (R326): taken if `a = b`, `a = x[dst]`, `b = sext_64(imm)`. -/
def execJeq64Imm (dst : Reg) (imm : Word32) (offset : BitVec 16) (s : State) : Result :=
  jump64K condEq dst imm offset s

/-- `jeq64_reg` (R327): taken if `a = b`, `a = x[dst]`, `b = x[src]`. -/
def execJeq64Reg (dst src : Reg) (offset : BitVec 16) (s : State) : Result :=
  jump64X condEq dst src offset s

/-- `jgt64_imm` (R328): taken if `u(a) > u(b)`, `a = x[dst]`, `b = sext_64(imm)`. -/
def execJgt64Imm (dst : Reg) (imm : Word32) (offset : BitVec 16) (s : State) : Result :=
  jump64K condGt dst imm offset s

/-- `jgt64_reg` (R329): taken if `u(a) > u(b)`, `a = x[dst]`, `b = x[src]`. -/
def execJgt64Reg (dst src : Reg) (offset : BitVec 16) (s : State) : Result :=
  jump64X condGt dst src offset s

/-- `jge64_imm` (R330): taken if `u(a) >= u(b)`, `a = x[dst]`, `b = sext_64(imm)`. -/
def execJge64Imm (dst : Reg) (imm : Word32) (offset : BitVec 16) (s : State) : Result :=
  jump64K condGe dst imm offset s

/-- `jge64_reg` (R331): taken if `u(a) >= u(b)`, `a = x[dst]`, `b = x[src]`. -/
def execJge64Reg (dst src : Reg) (offset : BitVec 16) (s : State) : Result :=
  jump64X condGe dst src offset s

/-- `jset64_imm` (R332): taken if `(a & b) != 0`, `a = x[dst]`, `b = sext_64(imm)`. -/
def execJset64Imm (dst : Reg) (imm : Word32) (offset : BitVec 16) (s : State) : Result :=
  jump64K condSet dst imm offset s

/-- `jset64_reg` (R333): taken if `(a & b) != 0`, `a = x[dst]`, `b = x[src]`. -/
def execJset64Reg (dst src : Reg) (offset : BitVec 16) (s : State) : Result :=
  jump64X condSet dst src offset s

/-- `jne64_imm` (R334): taken if `a != b`, `a = x[dst]`, `b = sext_64(imm)`. -/
def execJne64Imm (dst : Reg) (imm : Word32) (offset : BitVec 16) (s : State) : Result :=
  jump64K condNe dst imm offset s

/-- `jne64_reg` (R335): taken if `a != b`, `a = x[dst]`, `b = x[src]`. -/
def execJne64Reg (dst src : Reg) (offset : BitVec 16) (s : State) : Result :=
  jump64X condNe dst src offset s

/-- `jsgt64_imm` (R336): taken if `s(a) > s(b)`, `a = x[dst]`, `b = sext_64(imm)`. -/
def execJsgt64Imm (dst : Reg) (imm : Word32) (offset : BitVec 16) (s : State) : Result :=
  jump64K condSgt dst imm offset s

/-- `jsgt64_reg` (R337): taken if `s(a) > s(b)`, `a = x[dst]`, `b = x[src]`. -/
def execJsgt64Reg (dst src : Reg) (offset : BitVec 16) (s : State) : Result :=
  jump64X condSgt dst src offset s

/-- `jsge64_imm` (R338): taken if `s(a) >= s(b)`, `a = x[dst]`, `b = sext_64(imm)`. -/
def execJsge64Imm (dst : Reg) (imm : Word32) (offset : BitVec 16) (s : State) : Result :=
  jump64K condSge dst imm offset s

/-- `jsge64_reg` (R339): taken if `s(a) >= s(b)`, `a = x[dst]`, `b = x[src]`. -/
def execJsge64Reg (dst src : Reg) (offset : BitVec 16) (s : State) : Result :=
  jump64X condSge dst src offset s

/-- `jlt64_imm` (R340): taken if `u(a) < u(b)`, `a = x[dst]`, `b = sext_64(imm)`. -/
def execJlt64Imm (dst : Reg) (imm : Word32) (offset : BitVec 16) (s : State) : Result :=
  jump64K condLt dst imm offset s

/-- `jlt64_reg` (R341): taken if `u(a) < u(b)`, `a = x[dst]`, `b = x[src]`. -/
def execJlt64Reg (dst src : Reg) (offset : BitVec 16) (s : State) : Result :=
  jump64X condLt dst src offset s

/-- `jle64_imm` (R342): taken if `u(a) <= u(b)`, `a = x[dst]`, `b = sext_64(imm)`. -/
def execJle64Imm (dst : Reg) (imm : Word32) (offset : BitVec 16) (s : State) : Result :=
  jump64K condLe dst imm offset s

/-- `jle64_reg` (R343): taken if `u(a) <= u(b)`, `a = x[dst]`, `b = x[src]`. -/
def execJle64Reg (dst src : Reg) (offset : BitVec 16) (s : State) : Result :=
  jump64X condLe dst src offset s

/-- `jslt64_imm` (R344): taken if `s(a) < s(b)`, `a = x[dst]`, `b = sext_64(imm)`. -/
def execJslt64Imm (dst : Reg) (imm : Word32) (offset : BitVec 16) (s : State) : Result :=
  jump64K condSlt dst imm offset s

/-- `jslt64_reg` (R345): taken if `s(a) < s(b)`, `a = x[dst]`, `b = x[src]`. -/
def execJslt64Reg (dst src : Reg) (offset : BitVec 16) (s : State) : Result :=
  jump64X condSlt dst src offset s

/-- `jsle64_imm` (R346): taken if `s(a) <= s(b)`, `a = x[dst]`, `b = sext_64(imm)`. -/
def execJsle64Imm (dst : Reg) (imm : Word32) (offset : BitVec 16) (s : State) : Result :=
  jump64K condSle dst imm offset s

/-- `jsle64_reg` (R347): taken if `s(a) <= s(b)`, `a = x[dst]`, `b = x[src]`. -/
def execJsle64Reg (dst src : Reg) (offset : BitVec 16) (s : State) : Result :=
  jump64X condSle dst src offset s

end Sys2Proof.Machine
end

