-- ==== Sys2Proof/Machine/Legacy.lean ====
section
/-! DEFINITION. Legacy packet access (49_legacy_packet.md): named by the source, given no effect (R530). One meaning per instruction. -/

namespace Sys2Proof.Machine

/-- `ld_abs_w`, opcode 0x20 (R530, R531): `Unmodelled`, whatever the fields hold. -/
def execLdAbsW (_dst _src : BitVec 4) (_offset : BitVec 16) (_imm : Word32) (_s : State) : Result :=
  raise (.unmodelled 0x20#8)

/-- `ld_abs_h`, opcode 0x28 (R530, R531): `Unmodelled`, whatever the fields hold. -/
def execLdAbsH (_dst _src : BitVec 4) (_offset : BitVec 16) (_imm : Word32) (_s : State) : Result :=
  raise (.unmodelled 0x28#8)

/-- `ld_abs_b`, opcode 0x30 (R530, R531): `Unmodelled`, whatever the fields hold. -/
def execLdAbsB (_dst _src : BitVec 4) (_offset : BitVec 16) (_imm : Word32) (_s : State) : Result :=
  raise (.unmodelled 0x30#8)

/-- `ld_abs_dw`, opcode 0x38 (R530, R531): `Unmodelled`, whatever the fields hold. -/
def execLdAbsDw (_dst _src : BitVec 4) (_offset : BitVec 16) (_imm : Word32) (_s : State) : Result :=
  raise (.unmodelled 0x38#8)

/-- `ld_ind_w`, opcode 0x40 (R530, R531): `Unmodelled`, whatever the fields hold. -/
def execLdIndW (_dst _src : BitVec 4) (_offset : BitVec 16) (_imm : Word32) (_s : State) : Result :=
  raise (.unmodelled 0x40#8)

/-- `ld_ind_h`, opcode 0x48 (R530, R531): `Unmodelled`, whatever the fields hold. -/
def execLdIndH (_dst _src : BitVec 4) (_offset : BitVec 16) (_imm : Word32) (_s : State) : Result :=
  raise (.unmodelled 0x48#8)

/-- `ld_ind_b`, opcode 0x50 (R530, R531): `Unmodelled`, whatever the fields hold. -/
def execLdIndB (_dst _src : BitVec 4) (_offset : BitVec 16) (_imm : Word32) (_s : State) : Result :=
  raise (.unmodelled 0x50#8)

/-- `ld_ind_dw`, opcode 0x58 (R530, R531): `Unmodelled`, whatever the fields hold. -/
def execLdIndDw (_dst _src : BitVec 4) (_offset : BitVec 16) (_imm : Word32) (_s : State) : Result :=
  raise (.unmodelled 0x58#8)

end Sys2Proof.Machine
end

