-- ==== Sys2Proof/Machine/LoadStore.lean ====
section
/-! DEFINITION. Regular and sign-extending loads and stores (46_load_store.md). One meaning per instruction. -/

namespace Sys2Proof.Machine

/-- `ldx_w` (R435): `x[dst] <- zext_64(MemRead(addr, 4))`. -/
def execLdxW (dst src : Reg) (offset : BitVec 16) (s : State) : Result :=
  loadForm .w (fun v => v) dst src offset s

/-- `ldx_h` (R436): `x[dst] <- zext_64(MemRead(addr, 2))`. -/
def execLdxH (dst src : Reg) (offset : BitVec 16) (s : State) : Result :=
  loadForm .h (fun v => v) dst src offset s

/-- `ldx_b` (R437): `x[dst] <- zext_64(MemRead(addr, 1))`. -/
def execLdxB (dst src : Reg) (offset : BitVec 16) (s : State) : Result :=
  loadForm .b (fun v => v) dst src offset s

/-- `ldx_dw` (R438): `x[dst] <- zext_64(MemRead(addr, 8))`. -/
def execLdxDw (dst src : Reg) (offset : BitVec 16) (s : State) : Result :=
  loadForm .dw (fun v => v) dst src offset s

/-- `st_w` (R439): `MemWrite(addr, 4, imm[31:0])`. -/
def execStW (dst : Reg) (offset : BitVec 16) (imm : Word32) (s : State) : Result :=
  storeImm .w dst offset imm s

/-- `st_h` (R440): `MemWrite(addr, 2, imm[15:0])`. -/
def execStH (dst : Reg) (offset : BitVec 16) (imm : Word32) (s : State) : Result :=
  storeImm .h dst offset imm s

/-- `st_b` (R441): `MemWrite(addr, 1, imm[7:0])`. -/
def execStB (dst : Reg) (offset : BitVec 16) (imm : Word32) (s : State) : Result :=
  storeImm .b dst offset imm s

/-- `st_dw` (R442): `MemWrite(addr, 8, sext_64(imm))`. -/
def execStDw (dst : Reg) (offset : BitVec 16) (imm : Word32) (s : State) : Result :=
  storeImm .dw dst offset imm s

/-- `stx_w` (R443): `MemWrite(addr, 4, x[src][31:0])`. -/
def execStxW (dst src : Reg) (offset : BitVec 16) (s : State) : Result :=
  storeReg .w dst src offset s

/-- `stx_h` (R444): `MemWrite(addr, 2, x[src][15:0])`. -/
def execStxH (dst src : Reg) (offset : BitVec 16) (s : State) : Result :=
  storeReg .h dst src offset s

/-- `stx_b` (R445): `MemWrite(addr, 1, x[src][7:0])`. -/
def execStxB (dst src : Reg) (offset : BitVec 16) (s : State) : Result :=
  storeReg .b dst src offset s

/-- `stx_dw` (R446): `MemWrite(addr, 8, x[src][63:0])`. -/
def execStxDw (dst src : Reg) (offset : BitVec 16) (s : State) : Result :=
  storeReg .dw dst src offset s

/-- `ldxsx_w` (R447): `x[dst] <- sext_64(MemRead(addr, 4))`. -/
def execLdxsxW (dst src : Reg) (offset : BitVec 16) (s : State) : Result :=
  loadForm .w (fun v => (v.setWidth 32).signExtend 64) dst src offset s

/-- `ldxsx_h` (R448): `x[dst] <- sext_64(MemRead(addr, 2))`. -/
def execLdxsxH (dst src : Reg) (offset : BitVec 16) (s : State) : Result :=
  loadForm .h (fun v => (v.setWidth 16).signExtend 64) dst src offset s

/-- `ldxsx_b` (R449): `x[dst] <- sext_64(MemRead(addr, 1))`. -/
def execLdxsxB (dst src : Reg) (offset : BitVec 16) (s : State) : Result :=
  loadForm .b (fun v => (v.setWidth 8).signExtend 64) dst src offset s

end Sys2Proof.Machine
end

