-- ==== Sys2Proof/Machine/Dispatch.lean ====
section
/-! DEFINITION. The dispatch: one arm per constructor of `Instr`, each one call of its meaning. -/

namespace Sys2Proof.Machine

def exec (i : Instr) (s : State) : Host.Outcome State Fault Refusal :=
  match i with
  -- 40_alu64.md
  | .add64Imm dst imm => Sys2Proof.Machine.execAdd64Imm dst imm s
  | .add64Reg dst src => Sys2Proof.Machine.execAdd64Reg dst src s
  | .sub64Imm dst imm => Sys2Proof.Machine.execSub64Imm dst imm s
  | .sub64Reg dst src => Sys2Proof.Machine.execSub64Reg dst src s
  | .mul64Imm dst imm => Sys2Proof.Machine.execMul64Imm dst imm s
  | .mul64Reg dst src => Sys2Proof.Machine.execMul64Reg dst src s
  | .div64Imm dst imm => Sys2Proof.Machine.execDiv64Imm dst imm s
  | .div64Reg dst src => Sys2Proof.Machine.execDiv64Reg dst src s
  | .sdiv64Imm dst imm => Sys2Proof.Machine.execSdiv64Imm dst imm s
  | .sdiv64Reg dst src => Sys2Proof.Machine.execSdiv64Reg dst src s
  | .or64Imm dst imm => Sys2Proof.Machine.execOr64Imm dst imm s
  | .or64Reg dst src => Sys2Proof.Machine.execOr64Reg dst src s
  | .and64Imm dst imm => Sys2Proof.Machine.execAnd64Imm dst imm s
  | .and64Reg dst src => Sys2Proof.Machine.execAnd64Reg dst src s
  | .lsh64Imm dst imm => Sys2Proof.Machine.execLsh64Imm dst imm s
  | .lsh64Reg dst src => Sys2Proof.Machine.execLsh64Reg dst src s
  | .rsh64Imm dst imm => Sys2Proof.Machine.execRsh64Imm dst imm s
  | .rsh64Reg dst src => Sys2Proof.Machine.execRsh64Reg dst src s
  | .neg64 dst => Sys2Proof.Machine.execNeg64 dst s
  | .mod64Imm dst imm => Sys2Proof.Machine.execMod64Imm dst imm s
  | .mod64Reg dst src => Sys2Proof.Machine.execMod64Reg dst src s
  | .smod64Imm dst imm => Sys2Proof.Machine.execSmod64Imm dst imm s
  | .smod64Reg dst src => Sys2Proof.Machine.execSmod64Reg dst src s
  | .xor64Imm dst imm => Sys2Proof.Machine.execXor64Imm dst imm s
  | .xor64Reg dst src => Sys2Proof.Machine.execXor64Reg dst src s
  | .mov64Imm dst imm => Sys2Proof.Machine.execMov64Imm dst imm s
  | .mov64Reg dst src => Sys2Proof.Machine.execMov64Reg dst src s
  | .movsx64From8 dst src => Sys2Proof.Machine.execMovsx64From8 dst src s
  | .movsx64From16 dst src => Sys2Proof.Machine.execMovsx64From16 dst src s
  | .movsx64From32 dst src => Sys2Proof.Machine.execMovsx64From32 dst src s
  | .arsh64Imm dst imm => Sys2Proof.Machine.execArsh64Imm dst imm s
  | .arsh64Reg dst src => Sys2Proof.Machine.execArsh64Reg dst src s
  -- 41_alu32.md
  | .add32Imm dst imm => Sys2Proof.Machine.execAdd32Imm dst imm s
  | .add32Reg dst src => Sys2Proof.Machine.execAdd32Reg dst src s
  | .sub32Imm dst imm => Sys2Proof.Machine.execSub32Imm dst imm s
  | .sub32Reg dst src => Sys2Proof.Machine.execSub32Reg dst src s
  | .mul32Imm dst imm => Sys2Proof.Machine.execMul32Imm dst imm s
  | .mul32Reg dst src => Sys2Proof.Machine.execMul32Reg dst src s
  | .div32Imm dst imm => Sys2Proof.Machine.execDiv32Imm dst imm s
  | .div32Reg dst src => Sys2Proof.Machine.execDiv32Reg dst src s
  | .sdiv32Imm dst imm => Sys2Proof.Machine.execSdiv32Imm dst imm s
  | .sdiv32Reg dst src => Sys2Proof.Machine.execSdiv32Reg dst src s
  | .or32Imm dst imm => Sys2Proof.Machine.execOr32Imm dst imm s
  | .or32Reg dst src => Sys2Proof.Machine.execOr32Reg dst src s
  | .and32Imm dst imm => Sys2Proof.Machine.execAnd32Imm dst imm s
  | .and32Reg dst src => Sys2Proof.Machine.execAnd32Reg dst src s
  | .lsh32Imm dst imm => Sys2Proof.Machine.execLsh32Imm dst imm s
  | .lsh32Reg dst src => Sys2Proof.Machine.execLsh32Reg dst src s
  | .rsh32Imm dst imm => Sys2Proof.Machine.execRsh32Imm dst imm s
  | .rsh32Reg dst src => Sys2Proof.Machine.execRsh32Reg dst src s
  | .neg32 dst => Sys2Proof.Machine.execNeg32 dst s
  | .mod32Imm dst imm => Sys2Proof.Machine.execMod32Imm dst imm s
  | .mod32Reg dst src => Sys2Proof.Machine.execMod32Reg dst src s
  | .smod32Imm dst imm => Sys2Proof.Machine.execSmod32Imm dst imm s
  | .smod32Reg dst src => Sys2Proof.Machine.execSmod32Reg dst src s
  | .xor32Imm dst imm => Sys2Proof.Machine.execXor32Imm dst imm s
  | .xor32Reg dst src => Sys2Proof.Machine.execXor32Reg dst src s
  | .mov32Imm dst imm => Sys2Proof.Machine.execMov32Imm dst imm s
  | .mov32Reg dst src => Sys2Proof.Machine.execMov32Reg dst src s
  | .movsx32From8 dst src => Sys2Proof.Machine.execMovsx32From8 dst src s
  | .movsx32From16 dst src => Sys2Proof.Machine.execMovsx32From16 dst src s
  | .arsh32Imm dst imm => Sys2Proof.Machine.execArsh32Imm dst imm s
  | .arsh32Reg dst src => Sys2Proof.Machine.execArsh32Reg dst src s
  -- 42_byteswap.md
  | .le16 dst => Sys2Proof.Machine.execLe16 dst s
  | .le32 dst => Sys2Proof.Machine.execLe32 dst s
  | .le64 dst => Sys2Proof.Machine.execLe64 dst s
  | .be16 dst => Sys2Proof.Machine.execBe16 dst s
  | .be32 dst => Sys2Proof.Machine.execBe32 dst s
  | .be64 dst => Sys2Proof.Machine.execBe64 dst s
  | .bswap16 dst => Sys2Proof.Machine.execBswap16 dst s
  | .bswap32 dst => Sys2Proof.Machine.execBswap32 dst s
  | .bswap64 dst => Sys2Proof.Machine.execBswap64 dst s
  -- 43_jump64.md
  | .ja offset => Sys2Proof.Machine.execJa offset s
  | .jeq64Imm dst imm offset => Sys2Proof.Machine.execJeq64Imm dst imm offset s
  | .jeq64Reg dst src offset => Sys2Proof.Machine.execJeq64Reg dst src offset s
  | .jgt64Imm dst imm offset => Sys2Proof.Machine.execJgt64Imm dst imm offset s
  | .jgt64Reg dst src offset => Sys2Proof.Machine.execJgt64Reg dst src offset s
  | .jge64Imm dst imm offset => Sys2Proof.Machine.execJge64Imm dst imm offset s
  | .jge64Reg dst src offset => Sys2Proof.Machine.execJge64Reg dst src offset s
  | .jset64Imm dst imm offset => Sys2Proof.Machine.execJset64Imm dst imm offset s
  | .jset64Reg dst src offset => Sys2Proof.Machine.execJset64Reg dst src offset s
  | .jne64Imm dst imm offset => Sys2Proof.Machine.execJne64Imm dst imm offset s
  | .jne64Reg dst src offset => Sys2Proof.Machine.execJne64Reg dst src offset s
  | .jsgt64Imm dst imm offset => Sys2Proof.Machine.execJsgt64Imm dst imm offset s
  | .jsgt64Reg dst src offset => Sys2Proof.Machine.execJsgt64Reg dst src offset s
  | .jsge64Imm dst imm offset => Sys2Proof.Machine.execJsge64Imm dst imm offset s
  | .jsge64Reg dst src offset => Sys2Proof.Machine.execJsge64Reg dst src offset s
  | .jlt64Imm dst imm offset => Sys2Proof.Machine.execJlt64Imm dst imm offset s
  | .jlt64Reg dst src offset => Sys2Proof.Machine.execJlt64Reg dst src offset s
  | .jle64Imm dst imm offset => Sys2Proof.Machine.execJle64Imm dst imm offset s
  | .jle64Reg dst src offset => Sys2Proof.Machine.execJle64Reg dst src offset s
  | .jslt64Imm dst imm offset => Sys2Proof.Machine.execJslt64Imm dst imm offset s
  | .jslt64Reg dst src offset => Sys2Proof.Machine.execJslt64Reg dst src offset s
  | .jsle64Imm dst imm offset => Sys2Proof.Machine.execJsle64Imm dst imm offset s
  | .jsle64Reg dst src offset => Sys2Proof.Machine.execJsle64Reg dst src offset s
  -- 44_jump32.md
  | .ja32 imm => Sys2Proof.Machine.execJa32 imm s
  | .jeq32Imm dst imm offset => Sys2Proof.Machine.execJeq32Imm dst imm offset s
  | .jeq32Reg dst src offset => Sys2Proof.Machine.execJeq32Reg dst src offset s
  | .jgt32Imm dst imm offset => Sys2Proof.Machine.execJgt32Imm dst imm offset s
  | .jgt32Reg dst src offset => Sys2Proof.Machine.execJgt32Reg dst src offset s
  | .jge32Imm dst imm offset => Sys2Proof.Machine.execJge32Imm dst imm offset s
  | .jge32Reg dst src offset => Sys2Proof.Machine.execJge32Reg dst src offset s
  | .jset32Imm dst imm offset => Sys2Proof.Machine.execJset32Imm dst imm offset s
  | .jset32Reg dst src offset => Sys2Proof.Machine.execJset32Reg dst src offset s
  | .jne32Imm dst imm offset => Sys2Proof.Machine.execJne32Imm dst imm offset s
  | .jne32Reg dst src offset => Sys2Proof.Machine.execJne32Reg dst src offset s
  | .jsgt32Imm dst imm offset => Sys2Proof.Machine.execJsgt32Imm dst imm offset s
  | .jsgt32Reg dst src offset => Sys2Proof.Machine.execJsgt32Reg dst src offset s
  | .jsge32Imm dst imm offset => Sys2Proof.Machine.execJsge32Imm dst imm offset s
  | .jsge32Reg dst src offset => Sys2Proof.Machine.execJsge32Reg dst src offset s
  | .jlt32Imm dst imm offset => Sys2Proof.Machine.execJlt32Imm dst imm offset s
  | .jlt32Reg dst src offset => Sys2Proof.Machine.execJlt32Reg dst src offset s
  | .jle32Imm dst imm offset => Sys2Proof.Machine.execJle32Imm dst imm offset s
  | .jle32Reg dst src offset => Sys2Proof.Machine.execJle32Reg dst src offset s
  | .jslt32Imm dst imm offset => Sys2Proof.Machine.execJslt32Imm dst imm offset s
  | .jslt32Reg dst src offset => Sys2Proof.Machine.execJslt32Reg dst src offset s
  | .jsle32Imm dst imm offset => Sys2Proof.Machine.execJsle32Imm dst imm offset s
  | .jsle32Reg dst src offset => Sys2Proof.Machine.execJsle32Reg dst src offset s
  -- 45_call_exit.md
  | .callHelper imm => Sys2Proof.Machine.execCallHelper imm s
  | .callLocal imm => Sys2Proof.Machine.execCallLocal imm s
  | .callBtf imm => Sys2Proof.Machine.execCallBtf imm s
  | .exit => Sys2Proof.Machine.execExit s
  -- 46_load_store.md
  | .ldxW dst src offset => Sys2Proof.Machine.execLdxW dst src offset s
  | .ldxH dst src offset => Sys2Proof.Machine.execLdxH dst src offset s
  | .ldxB dst src offset => Sys2Proof.Machine.execLdxB dst src offset s
  | .ldxDw dst src offset => Sys2Proof.Machine.execLdxDw dst src offset s
  | .stW dst offset imm => Sys2Proof.Machine.execStW dst offset imm s
  | .stH dst offset imm => Sys2Proof.Machine.execStH dst offset imm s
  | .stB dst offset imm => Sys2Proof.Machine.execStB dst offset imm s
  | .stDw dst offset imm => Sys2Proof.Machine.execStDw dst offset imm s
  | .stxW dst src offset => Sys2Proof.Machine.execStxW dst src offset s
  | .stxH dst src offset => Sys2Proof.Machine.execStxH dst src offset s
  | .stxB dst src offset => Sys2Proof.Machine.execStxB dst src offset s
  | .stxDw dst src offset => Sys2Proof.Machine.execStxDw dst src offset s
  | .ldxsxW dst src offset => Sys2Proof.Machine.execLdxsxW dst src offset s
  | .ldxsxH dst src offset => Sys2Proof.Machine.execLdxsxH dst src offset s
  | .ldxsxB dst src offset => Sys2Proof.Machine.execLdxsxB dst src offset s
  -- 47_atomic.md
  | .atomicAdd32 dst src offset => Sys2Proof.Machine.execAtomicAdd32 dst src offset s
  | .atomicFetchAdd32 dst src offset => Sys2Proof.Machine.execAtomicFetchAdd32 dst src offset s
  | .atomicOr32 dst src offset => Sys2Proof.Machine.execAtomicOr32 dst src offset s
  | .atomicFetchOr32 dst src offset => Sys2Proof.Machine.execAtomicFetchOr32 dst src offset s
  | .atomicAnd32 dst src offset => Sys2Proof.Machine.execAtomicAnd32 dst src offset s
  | .atomicFetchAnd32 dst src offset => Sys2Proof.Machine.execAtomicFetchAnd32 dst src offset s
  | .atomicXor32 dst src offset => Sys2Proof.Machine.execAtomicXor32 dst src offset s
  | .atomicFetchXor32 dst src offset => Sys2Proof.Machine.execAtomicFetchXor32 dst src offset s
  | .atomicXchg32 dst src offset => Sys2Proof.Machine.execAtomicXchg32 dst src offset s
  | .atomicCmpxchg32 dst src offset => Sys2Proof.Machine.execAtomicCmpxchg32 dst src offset s
  | .atomicAdd64 dst src offset => Sys2Proof.Machine.execAtomicAdd64 dst src offset s
  | .atomicFetchAdd64 dst src offset => Sys2Proof.Machine.execAtomicFetchAdd64 dst src offset s
  | .atomicOr64 dst src offset => Sys2Proof.Machine.execAtomicOr64 dst src offset s
  | .atomicFetchOr64 dst src offset => Sys2Proof.Machine.execAtomicFetchOr64 dst src offset s
  | .atomicAnd64 dst src offset => Sys2Proof.Machine.execAtomicAnd64 dst src offset s
  | .atomicFetchAnd64 dst src offset => Sys2Proof.Machine.execAtomicFetchAnd64 dst src offset s
  | .atomicXor64 dst src offset => Sys2Proof.Machine.execAtomicXor64 dst src offset s
  | .atomicFetchXor64 dst src offset => Sys2Proof.Machine.execAtomicFetchXor64 dst src offset s
  | .atomicXchg64 dst src offset => Sys2Proof.Machine.execAtomicXchg64 dst src offset s
  | .atomicCmpxchg64 dst src offset => Sys2Proof.Machine.execAtomicCmpxchg64 dst src offset s
  -- 48_imm64.md
  | .ldImm64 dst imm nextImm => Sys2Proof.Machine.execLdImm64 dst imm nextImm s
  | .ldMapFd dst imm => Sys2Proof.Machine.execLdMapFd dst imm s
  | .ldMapFdVal dst imm nextImm => Sys2Proof.Machine.execLdMapFdVal dst imm nextImm s
  | .ldVarAddr dst imm => Sys2Proof.Machine.execLdVarAddr dst imm s
  | .ldCodeAddr dst imm => Sys2Proof.Machine.execLdCodeAddr dst imm s
  | .ldMapIdx dst imm => Sys2Proof.Machine.execLdMapIdx dst imm s
  | .ldMapIdxVal dst imm nextImm => Sys2Proof.Machine.execLdMapIdxVal dst imm nextImm s
  -- 49_legacy_packet.md
  | .ldAbsW dst src offset imm => Sys2Proof.Machine.execLdAbsW dst src offset imm s
  | .ldAbsH dst src offset imm => Sys2Proof.Machine.execLdAbsH dst src offset imm s
  | .ldAbsB dst src offset imm => Sys2Proof.Machine.execLdAbsB dst src offset imm s
  | .ldAbsDw dst src offset imm => Sys2Proof.Machine.execLdAbsDw dst src offset imm s
  | .ldIndW dst src offset imm => Sys2Proof.Machine.execLdIndW dst src offset imm s
  | .ldIndH dst src offset imm => Sys2Proof.Machine.execLdIndH dst src offset imm s
  | .ldIndB dst src offset imm => Sys2Proof.Machine.execLdIndB dst src offset imm s
  | .ldIndDw dst src offset imm => Sys2Proof.Machine.execLdIndDw dst src offset imm s

end Sys2Proof.Machine
end

