-- ==== Sys2Proof/Machine/Fetch.lean ====
section
/-! DEFINITION. The fetch and decode of the instruction at `pc`, and the placing of one for the host's probes. -/

namespace Sys2Proof.Machine

/-- Fetch and decode (R50, R162, R555): `PcOutOfRange` where `pc` is outside `PROGRAM`, `IllegalEncoding` with the slot
where the decoding fails. The second slot of a wide instruction is the next one of `PROGRAM` (R139, R141). -/
def fetch (s : State) : Except Fault Instr :=
  match s.slotAt s.pc with
  | none => .error (.pcOutOfRange s.pc)
  | some w =>
    match decode s.params.endian w (s.slotAt (s.pc + 1)) with
    | .error why => .error (.illegalEncoding s.pc (some w) why)
    | .ok i => .ok i

/-- `program` with two slots put at index `i`, padded with zero slots where it is shorter. -/
def placeSlots (program : List Slot) (i : Nat) (slots : Slot × Slot) : List Slot :=
  let zero : Slot := ⟨0#8, 0#8, 0#8, 0#8, 0#8, 0#8, 0#8, 0#8⟩
  ((program ++ List.replicate (i + 2 - program.length) zero).set i slots.1).set (i + 1) slots.2

end Sys2Proof.Machine
end

