-- ==== Sys2Proof/Machine/Step.lean ====
section
/-! DEFINITION. One step of the machine, and the placing of an instruction where it fetches. -/

namespace Sys2Proof.Machine

/-- One step (R541, R607): in status running, fetch, decode and execute one instruction; where it completes, the other
agents have their turn (R97). No step follows an exit or a fault (R59, R608). -/
def step (s : State) : Host.Outcome State Fault Refusal :=
  match s.status with
  | .running =>
    match fetch s with
    | .error k => .fault k
    | .ok i => othersFollow (exec i s)
  | .exited _ => .refused .runEnded
  | .faulted _ => .refused .runEnded

/-- `s` with the word `w` of spec/opcode_table.json, and a zero second slot where the table gives one no bits, stored in
`PROGRAM` at `pc`, in the byte order of `s`; the run is running. A negative `pc` becomes 0. notes/assumptions/10.md. -/
def State.withFetchWord (s : State) (nbits w : Nat) : State :=
  { s with
    pc := s.pc.toNat
    status := .running
    params := { s.params with
      program := placeSlots s.params.program s.pc.toNat (tableSlots s.params.endian nbits w) } }

end Sys2Proof.Machine
end

