-- ==== Sys2Proof/Machine/Run.lean ====
section
/-! DEFINITION. The run: what the machine's status becomes when a step faults, and what follows the end. -/

namespace Sys2Proof.Machine

/-- The run goes on by one step (R59, R541, R608): a completed step gives its state, a fault is recorded in the status and
changes nothing else, and a run that has ended stays as it is. -/
def State.advance (s : State) : State :=
  match step s with
  | .next t => t
  | .fault k => s.recordFault k
  | .refused _ => s

/-- The run after `n` steps. -/
def State.run (s : State) : Nat → State
  | 0 => s
  | n + 1 => s.advance.run n

end Sys2Proof.Machine
end

