-- ==== Sys2Proof/Safety.lean ====
section
/-! DEFINITION. What a claim says of a step: what an instruction reads and writes, what it accesses, how bytes stand for a
value, and the invariant of a run. -/

namespace Sys2Proof

/-- The registers that an instruction reads, in the order of R555. A helper's argument registers are its own
(`HelperReply.reads`). -/
def Instr.reads : Instr → List Reg
  | .add64Imm dst _ => [dst]
  | .add64Reg dst src => [dst, src]
  | .sub64Imm dst _ => [dst]
  | .sub64Reg dst src => [dst, src]
  | .mul64Imm dst _ => [dst]
  | .mul64Reg dst src => [dst, src]
  | .div64Imm dst _ => [dst]
  | .div64Reg dst src => [dst, src]
  | .sdiv64Imm dst _ => [dst]
  | .sdiv64Reg dst src => [dst, src]
  | .or64Imm dst _ => [dst]
  | .or64Reg dst src => [dst, src]
  | .and64Imm dst _ => [dst]
  | .and64Reg dst src => [dst, src]
  | .lsh64Imm dst _ => [dst]
  | .lsh64Reg dst src => [dst, src]
  | .rsh64Imm dst _ => [dst]
  | .rsh64Reg dst src => [dst, src]
  | .neg64 dst => [dst]
  | .mod64Imm dst _ => [dst]
  | .mod64Reg dst src => [dst, src]
  | .smod64Imm dst _ => [dst]
  | .smod64Reg dst src => [dst, src]
  | .xor64Imm dst _ => [dst]
  | .xor64Reg dst src => [dst, src]
  | .mov64Imm _ _ => []
  | .mov64Reg _ src => [src]
  | .movsx64From8 _ src => [src]
  | .movsx64From16 _ src => [src]
  | .movsx64From32 _ src => [src]
  | .arsh64Imm dst _ => [dst]
  | .arsh64Reg dst src => [dst, src]
  | .add32Imm dst _ => [dst]
  | .add32Reg dst src => [dst, src]
  | .sub32Imm dst _ => [dst]
  | .sub32Reg dst src => [dst, src]
  | .mul32Imm dst _ => [dst]
  | .mul32Reg dst src => [dst, src]
  | .div32Imm dst _ => [dst]
  | .div32Reg dst src => [dst, src]
  | .sdiv32Imm dst _ => [dst]
  | .sdiv32Reg dst src => [dst, src]
  | .or32Imm dst _ => [dst]
  | .or32Reg dst src => [dst, src]
  | .and32Imm dst _ => [dst]
  | .and32Reg dst src => [dst, src]
  | .lsh32Imm dst _ => [dst]
  | .lsh32Reg dst src => [dst, src]
  | .rsh32Imm dst _ => [dst]
  | .rsh32Reg dst src => [dst, src]
  | .neg32 dst => [dst]
  | .mod32Imm dst _ => [dst]
  | .mod32Reg dst src => [dst, src]
  | .smod32Imm dst _ => [dst]
  | .smod32Reg dst src => [dst, src]
  | .xor32Imm dst _ => [dst]
  | .xor32Reg dst src => [dst, src]
  | .mov32Imm _ _ => []
  | .mov32Reg _ src => [src]
  | .movsx32From8 _ src => [src]
  | .movsx32From16 _ src => [src]
  | .arsh32Imm dst _ => [dst]
  | .arsh32Reg dst src => [dst, src]
  | .le16 dst => [dst]
  | .le32 dst => [dst]
  | .le64 dst => [dst]
  | .be16 dst => [dst]
  | .be32 dst => [dst]
  | .be64 dst => [dst]
  | .bswap16 dst => [dst]
  | .bswap32 dst => [dst]
  | .bswap64 dst => [dst]
  | .ja _ => []
  | .jeq64Imm dst _ _ => [dst]
  | .jeq64Reg dst src _ => [dst, src]
  | .jgt64Imm dst _ _ => [dst]
  | .jgt64Reg dst src _ => [dst, src]
  | .jge64Imm dst _ _ => [dst]
  | .jge64Reg dst src _ => [dst, src]
  | .jset64Imm dst _ _ => [dst]
  | .jset64Reg dst src _ => [dst, src]
  | .jne64Imm dst _ _ => [dst]
  | .jne64Reg dst src _ => [dst, src]
  | .jsgt64Imm dst _ _ => [dst]
  | .jsgt64Reg dst src _ => [dst, src]
  | .jsge64Imm dst _ _ => [dst]
  | .jsge64Reg dst src _ => [dst, src]
  | .jlt64Imm dst _ _ => [dst]
  | .jlt64Reg dst src _ => [dst, src]
  | .jle64Imm dst _ _ => [dst]
  | .jle64Reg dst src _ => [dst, src]
  | .jslt64Imm dst _ _ => [dst]
  | .jslt64Reg dst src _ => [dst, src]
  | .jsle64Imm dst _ _ => [dst]
  | .jsle64Reg dst src _ => [dst, src]
  | .ja32 _ => []
  | .jeq32Imm dst _ _ => [dst]
  | .jeq32Reg dst src _ => [dst, src]
  | .jgt32Imm dst _ _ => [dst]
  | .jgt32Reg dst src _ => [dst, src]
  | .jge32Imm dst _ _ => [dst]
  | .jge32Reg dst src _ => [dst, src]
  | .jset32Imm dst _ _ => [dst]
  | .jset32Reg dst src _ => [dst, src]
  | .jne32Imm dst _ _ => [dst]
  | .jne32Reg dst src _ => [dst, src]
  | .jsgt32Imm dst _ _ => [dst]
  | .jsgt32Reg dst src _ => [dst, src]
  | .jsge32Imm dst _ _ => [dst]
  | .jsge32Reg dst src _ => [dst, src]
  | .jlt32Imm dst _ _ => [dst]
  | .jlt32Reg dst src _ => [dst, src]
  | .jle32Imm dst _ _ => [dst]
  | .jle32Reg dst src _ => [dst, src]
  | .jslt32Imm dst _ _ => [dst]
  | .jslt32Reg dst src _ => [dst, src]
  | .jsle32Imm dst _ _ => [dst]
  | .jsle32Reg dst src _ => [dst, src]
  | .callHelper _ => []
  | .callLocal _ => [.r10]
  | .callBtf _ => []
  | .exit => [.r0]
  | .ldxW _ src _ => [src]
  | .ldxH _ src _ => [src]
  | .ldxB _ src _ => [src]
  | .ldxDw _ src _ => [src]
  | .stW dst _ _ => [dst]
  | .stH dst _ _ => [dst]
  | .stB dst _ _ => [dst]
  | .stDw dst _ _ => [dst]
  | .stxW dst src _ => [dst, src]
  | .stxH dst src _ => [dst, src]
  | .stxB dst src _ => [dst, src]
  | .stxDw dst src _ => [dst, src]
  | .ldxsxW _ src _ => [src]
  | .ldxsxH _ src _ => [src]
  | .ldxsxB _ src _ => [src]
  | .atomicAdd32 dst src _ => [dst, src]
  | .atomicFetchAdd32 dst src _ => [dst, src]
  | .atomicOr32 dst src _ => [dst, src]
  | .atomicFetchOr32 dst src _ => [dst, src]
  | .atomicAnd32 dst src _ => [dst, src]
  | .atomicFetchAnd32 dst src _ => [dst, src]
  | .atomicXor32 dst src _ => [dst, src]
  | .atomicFetchXor32 dst src _ => [dst, src]
  | .atomicXchg32 dst src _ => [dst, src]
  | .atomicCmpxchg32 dst src _ => [dst, src, .r0]
  | .atomicAdd64 dst src _ => [dst, src]
  | .atomicFetchAdd64 dst src _ => [dst, src]
  | .atomicOr64 dst src _ => [dst, src]
  | .atomicFetchOr64 dst src _ => [dst, src]
  | .atomicAnd64 dst src _ => [dst, src]
  | .atomicFetchAnd64 dst src _ => [dst, src]
  | .atomicXor64 dst src _ => [dst, src]
  | .atomicFetchXor64 dst src _ => [dst, src]
  | .atomicXchg64 dst src _ => [dst, src]
  | .atomicCmpxchg64 dst src _ => [dst, src, .r0]
  | .ldImm64 _ _ _ => []
  | .ldMapFd _ _ => []
  | .ldMapFdVal _ _ _ => []
  | .ldVarAddr _ _ => []
  | .ldCodeAddr _ _ => []
  | .ldMapIdx _ _ => []
  | .ldMapIdxVal _ _ _ => []
  | .ldAbsW _ _ _ _ => []
  | .ldAbsH _ _ _ _ => []
  | .ldAbsB _ _ _ _ => []
  | .ldAbsDw _ _ _ _ => []
  | .ldIndW _ _ _ _ => []
  | .ldIndH _ _ _ _ => []
  | .ldIndB _ _ _ _ => []
  | .ldIndDw _ _ _ _ => []

/-- The registers whose content an instruction may change (R151, R403, R404, R409, R473). -/
def Instr.writes : Instr → List Reg
  | .add64Imm dst _ => [dst]
  | .add64Reg dst _ => [dst]
  | .sub64Imm dst _ => [dst]
  | .sub64Reg dst _ => [dst]
  | .mul64Imm dst _ => [dst]
  | .mul64Reg dst _ => [dst]
  | .div64Imm dst _ => [dst]
  | .div64Reg dst _ => [dst]
  | .sdiv64Imm dst _ => [dst]
  | .sdiv64Reg dst _ => [dst]
  | .or64Imm dst _ => [dst]
  | .or64Reg dst _ => [dst]
  | .and64Imm dst _ => [dst]
  | .and64Reg dst _ => [dst]
  | .lsh64Imm dst _ => [dst]
  | .lsh64Reg dst _ => [dst]
  | .rsh64Imm dst _ => [dst]
  | .rsh64Reg dst _ => [dst]
  | .neg64 dst => [dst]
  | .mod64Imm dst _ => [dst]
  | .mod64Reg dst _ => [dst]
  | .smod64Imm dst _ => [dst]
  | .smod64Reg dst _ => [dst]
  | .xor64Imm dst _ => [dst]
  | .xor64Reg dst _ => [dst]
  | .mov64Imm dst _ => [dst]
  | .mov64Reg dst _ => [dst]
  | .movsx64From8 dst _ => [dst]
  | .movsx64From16 dst _ => [dst]
  | .movsx64From32 dst _ => [dst]
  | .arsh64Imm dst _ => [dst]
  | .arsh64Reg dst _ => [dst]
  | .add32Imm dst _ => [dst]
  | .add32Reg dst _ => [dst]
  | .sub32Imm dst _ => [dst]
  | .sub32Reg dst _ => [dst]
  | .mul32Imm dst _ => [dst]
  | .mul32Reg dst _ => [dst]
  | .div32Imm dst _ => [dst]
  | .div32Reg dst _ => [dst]
  | .sdiv32Imm dst _ => [dst]
  | .sdiv32Reg dst _ => [dst]
  | .or32Imm dst _ => [dst]
  | .or32Reg dst _ => [dst]
  | .and32Imm dst _ => [dst]
  | .and32Reg dst _ => [dst]
  | .lsh32Imm dst _ => [dst]
  | .lsh32Reg dst _ => [dst]
  | .rsh32Imm dst _ => [dst]
  | .rsh32Reg dst _ => [dst]
  | .neg32 dst => [dst]
  | .mod32Imm dst _ => [dst]
  | .mod32Reg dst _ => [dst]
  | .smod32Imm dst _ => [dst]
  | .smod32Reg dst _ => [dst]
  | .xor32Imm dst _ => [dst]
  | .xor32Reg dst _ => [dst]
  | .mov32Imm dst _ => [dst]
  | .mov32Reg dst _ => [dst]
  | .movsx32From8 dst _ => [dst]
  | .movsx32From16 dst _ => [dst]
  | .arsh32Imm dst _ => [dst]
  | .arsh32Reg dst _ => [dst]
  | .le16 dst => [dst]
  | .le32 dst => [dst]
  | .le64 dst => [dst]
  | .be16 dst => [dst]
  | .be32 dst => [dst]
  | .be64 dst => [dst]
  | .bswap16 dst => [dst]
  | .bswap32 dst => [dst]
  | .bswap64 dst => [dst]
  | .ja _ => []
  | .jeq64Imm _ _ _ => []
  | .jeq64Reg _ _ _ => []
  | .jgt64Imm _ _ _ => []
  | .jgt64Reg _ _ _ => []
  | .jge64Imm _ _ _ => []
  | .jge64Reg _ _ _ => []
  | .jset64Imm _ _ _ => []
  | .jset64Reg _ _ _ => []
  | .jne64Imm _ _ _ => []
  | .jne64Reg _ _ _ => []
  | .jsgt64Imm _ _ _ => []
  | .jsgt64Reg _ _ _ => []
  | .jsge64Imm _ _ _ => []
  | .jsge64Reg _ _ _ => []
  | .jlt64Imm _ _ _ => []
  | .jlt64Reg _ _ _ => []
  | .jle64Imm _ _ _ => []
  | .jle64Reg _ _ _ => []
  | .jslt64Imm _ _ _ => []
  | .jslt64Reg _ _ _ => []
  | .jsle64Imm _ _ _ => []
  | .jsle64Reg _ _ _ => []
  | .ja32 _ => []
  | .jeq32Imm _ _ _ => []
  | .jeq32Reg _ _ _ => []
  | .jgt32Imm _ _ _ => []
  | .jgt32Reg _ _ _ => []
  | .jge32Imm _ _ _ => []
  | .jge32Reg _ _ _ => []
  | .jset32Imm _ _ _ => []
  | .jset32Reg _ _ _ => []
  | .jne32Imm _ _ _ => []
  | .jne32Reg _ _ _ => []
  | .jsgt32Imm _ _ _ => []
  | .jsgt32Reg _ _ _ => []
  | .jsge32Imm _ _ _ => []
  | .jsge32Reg _ _ _ => []
  | .jlt32Imm _ _ _ => []
  | .jlt32Reg _ _ _ => []
  | .jle32Imm _ _ _ => []
  | .jle32Reg _ _ _ => []
  | .jslt32Imm _ _ _ => []
  | .jslt32Reg _ _ _ => []
  | .jsle32Imm _ _ _ => []
  | .jsle32Reg _ _ _ => []
  | .callHelper _ => [.r0, .r1, .r2, .r3, .r4, .r5]
  | .callLocal _ => [.r0, .r6, .r7, .r8, .r9, .r10]
  | .callBtf _ => [.r0, .r1, .r2, .r3, .r4, .r5]
  | .exit => [.r1, .r2, .r3, .r4, .r5, .r6, .r7, .r8, .r9, .r10]
  | .ldxW dst _ _ => [dst]
  | .ldxH dst _ _ => [dst]
  | .ldxB dst _ _ => [dst]
  | .ldxDw dst _ _ => [dst]
  | .stW _ _ _ => []
  | .stH _ _ _ => []
  | .stB _ _ _ => []
  | .stDw _ _ _ => []
  | .stxW _ _ _ => []
  | .stxH _ _ _ => []
  | .stxB _ _ _ => []
  | .stxDw _ _ _ => []
  | .ldxsxW dst _ _ => [dst]
  | .ldxsxH dst _ _ => [dst]
  | .ldxsxB dst _ _ => [dst]
  | .atomicAdd32 _ _ _ => []
  | .atomicFetchAdd32 _ src _ => [src]
  | .atomicOr32 _ _ _ => []
  | .atomicFetchOr32 _ src _ => [src]
  | .atomicAnd32 _ _ _ => []
  | .atomicFetchAnd32 _ src _ => [src]
  | .atomicXor32 _ _ _ => []
  | .atomicFetchXor32 _ src _ => [src]
  | .atomicXchg32 _ src _ => [src]
  | .atomicCmpxchg32 _ _ _ => [.r0]
  | .atomicAdd64 _ _ _ => []
  | .atomicFetchAdd64 _ src _ => [src]
  | .atomicOr64 _ _ _ => []
  | .atomicFetchOr64 _ src _ => [src]
  | .atomicAnd64 _ _ _ => []
  | .atomicFetchAnd64 _ src _ => [src]
  | .atomicXor64 _ _ _ => []
  | .atomicFetchXor64 _ src _ => [src]
  | .atomicXchg64 _ src _ => [src]
  | .atomicCmpxchg64 _ _ _ => [.r0]
  | .ldImm64 dst _ _ => [dst]
  | .ldMapFd dst _ => [dst]
  | .ldMapFdVal dst _ _ => [dst]
  | .ldVarAddr dst _ => [dst]
  | .ldCodeAddr dst _ => [dst]
  | .ldMapIdx dst _ => [dst]
  | .ldMapIdxVal dst _ _ => [dst]
  | .ldAbsW _ _ _ _ => []
  | .ldAbsH _ _ _ _ => []
  | .ldAbsB _ _ _ _ => []
  | .ldAbsDw _ _ _ _ => []
  | .ldIndW _ _ _ _ => []
  | .ldIndH _ _ _ _ => []
  | .ldIndB _ _ _ _ => []
  | .ldIndDw _ _ _ _ => []

/-- One access to data memory as an instruction names it: the base register and the displacement, the number of bytes,
and whether natural alignment is asked for whatever `STRICT_ALIGN` is (R86 to R88). -/
structure Access where
  kind : AccessKind
  base : Reg
  offset : BitVec 16
  bytes : Nat
  alwaysAligned : Bool
deriving DecidableEq, Repr

/-- The access of a load, a store or an atomic operation; none for every other instruction. -/
def Instr.access : Instr → Option Access
  | .add64Imm _ _ => none
  | .add64Reg _ _ => none
  | .sub64Imm _ _ => none
  | .sub64Reg _ _ => none
  | .mul64Imm _ _ => none
  | .mul64Reg _ _ => none
  | .div64Imm _ _ => none
  | .div64Reg _ _ => none
  | .sdiv64Imm _ _ => none
  | .sdiv64Reg _ _ => none
  | .or64Imm _ _ => none
  | .or64Reg _ _ => none
  | .and64Imm _ _ => none
  | .and64Reg _ _ => none
  | .lsh64Imm _ _ => none
  | .lsh64Reg _ _ => none
  | .rsh64Imm _ _ => none
  | .rsh64Reg _ _ => none
  | .neg64 _ => none
  | .mod64Imm _ _ => none
  | .mod64Reg _ _ => none
  | .smod64Imm _ _ => none
  | .smod64Reg _ _ => none
  | .xor64Imm _ _ => none
  | .xor64Reg _ _ => none
  | .mov64Imm _ _ => none
  | .mov64Reg _ _ => none
  | .movsx64From8 _ _ => none
  | .movsx64From16 _ _ => none
  | .movsx64From32 _ _ => none
  | .arsh64Imm _ _ => none
  | .arsh64Reg _ _ => none
  | .add32Imm _ _ => none
  | .add32Reg _ _ => none
  | .sub32Imm _ _ => none
  | .sub32Reg _ _ => none
  | .mul32Imm _ _ => none
  | .mul32Reg _ _ => none
  | .div32Imm _ _ => none
  | .div32Reg _ _ => none
  | .sdiv32Imm _ _ => none
  | .sdiv32Reg _ _ => none
  | .or32Imm _ _ => none
  | .or32Reg _ _ => none
  | .and32Imm _ _ => none
  | .and32Reg _ _ => none
  | .lsh32Imm _ _ => none
  | .lsh32Reg _ _ => none
  | .rsh32Imm _ _ => none
  | .rsh32Reg _ _ => none
  | .neg32 _ => none
  | .mod32Imm _ _ => none
  | .mod32Reg _ _ => none
  | .smod32Imm _ _ => none
  | .smod32Reg _ _ => none
  | .xor32Imm _ _ => none
  | .xor32Reg _ _ => none
  | .mov32Imm _ _ => none
  | .mov32Reg _ _ => none
  | .movsx32From8 _ _ => none
  | .movsx32From16 _ _ => none
  | .arsh32Imm _ _ => none
  | .arsh32Reg _ _ => none
  | .le16 _ => none
  | .le32 _ => none
  | .le64 _ => none
  | .be16 _ => none
  | .be32 _ => none
  | .be64 _ => none
  | .bswap16 _ => none
  | .bswap32 _ => none
  | .bswap64 _ => none
  | .ja _ => none
  | .jeq64Imm _ _ _ => none
  | .jeq64Reg _ _ _ => none
  | .jgt64Imm _ _ _ => none
  | .jgt64Reg _ _ _ => none
  | .jge64Imm _ _ _ => none
  | .jge64Reg _ _ _ => none
  | .jset64Imm _ _ _ => none
  | .jset64Reg _ _ _ => none
  | .jne64Imm _ _ _ => none
  | .jne64Reg _ _ _ => none
  | .jsgt64Imm _ _ _ => none
  | .jsgt64Reg _ _ _ => none
  | .jsge64Imm _ _ _ => none
  | .jsge64Reg _ _ _ => none
  | .jlt64Imm _ _ _ => none
  | .jlt64Reg _ _ _ => none
  | .jle64Imm _ _ _ => none
  | .jle64Reg _ _ _ => none
  | .jslt64Imm _ _ _ => none
  | .jslt64Reg _ _ _ => none
  | .jsle64Imm _ _ _ => none
  | .jsle64Reg _ _ _ => none
  | .ja32 _ => none
  | .jeq32Imm _ _ _ => none
  | .jeq32Reg _ _ _ => none
  | .jgt32Imm _ _ _ => none
  | .jgt32Reg _ _ _ => none
  | .jge32Imm _ _ _ => none
  | .jge32Reg _ _ _ => none
  | .jset32Imm _ _ _ => none
  | .jset32Reg _ _ _ => none
  | .jne32Imm _ _ _ => none
  | .jne32Reg _ _ _ => none
  | .jsgt32Imm _ _ _ => none
  | .jsgt32Reg _ _ _ => none
  | .jsge32Imm _ _ _ => none
  | .jsge32Reg _ _ _ => none
  | .jlt32Imm _ _ _ => none
  | .jlt32Reg _ _ _ => none
  | .jle32Imm _ _ _ => none
  | .jle32Reg _ _ _ => none
  | .jslt32Imm _ _ _ => none
  | .jslt32Reg _ _ _ => none
  | .jsle32Imm _ _ _ => none
  | .jsle32Reg _ _ _ => none
  | .callHelper _ => none
  | .callLocal _ => none
  | .callBtf _ => none
  | .exit => none
  | .ldxW _ src offset => some ⟨.read, src, offset, 4, false⟩
  | .ldxH _ src offset => some ⟨.read, src, offset, 2, false⟩
  | .ldxB _ src offset => some ⟨.read, src, offset, 1, false⟩
  | .ldxDw _ src offset => some ⟨.read, src, offset, 8, false⟩
  | .stW dst offset _ => some ⟨.write, dst, offset, 4, false⟩
  | .stH dst offset _ => some ⟨.write, dst, offset, 2, false⟩
  | .stB dst offset _ => some ⟨.write, dst, offset, 1, false⟩
  | .stDw dst offset _ => some ⟨.write, dst, offset, 8, false⟩
  | .stxW dst _ offset => some ⟨.write, dst, offset, 4, false⟩
  | .stxH dst _ offset => some ⟨.write, dst, offset, 2, false⟩
  | .stxB dst _ offset => some ⟨.write, dst, offset, 1, false⟩
  | .stxDw dst _ offset => some ⟨.write, dst, offset, 8, false⟩
  | .ldxsxW _ src offset => some ⟨.read, src, offset, 4, false⟩
  | .ldxsxH _ src offset => some ⟨.read, src, offset, 2, false⟩
  | .ldxsxB _ src offset => some ⟨.read, src, offset, 1, false⟩
  | .atomicAdd32 dst _ offset => some ⟨.readWrite, dst, offset, 4, true⟩
  | .atomicFetchAdd32 dst _ offset => some ⟨.readWrite, dst, offset, 4, true⟩
  | .atomicOr32 dst _ offset => some ⟨.readWrite, dst, offset, 4, true⟩
  | .atomicFetchOr32 dst _ offset => some ⟨.readWrite, dst, offset, 4, true⟩
  | .atomicAnd32 dst _ offset => some ⟨.readWrite, dst, offset, 4, true⟩
  | .atomicFetchAnd32 dst _ offset => some ⟨.readWrite, dst, offset, 4, true⟩
  | .atomicXor32 dst _ offset => some ⟨.readWrite, dst, offset, 4, true⟩
  | .atomicFetchXor32 dst _ offset => some ⟨.readWrite, dst, offset, 4, true⟩
  | .atomicXchg32 dst _ offset => some ⟨.readWrite, dst, offset, 4, true⟩
  | .atomicCmpxchg32 dst _ offset => some ⟨.readWrite, dst, offset, 4, true⟩
  | .atomicAdd64 dst _ offset => some ⟨.readWrite, dst, offset, 8, true⟩
  | .atomicFetchAdd64 dst _ offset => some ⟨.readWrite, dst, offset, 8, true⟩
  | .atomicOr64 dst _ offset => some ⟨.readWrite, dst, offset, 8, true⟩
  | .atomicFetchOr64 dst _ offset => some ⟨.readWrite, dst, offset, 8, true⟩
  | .atomicAnd64 dst _ offset => some ⟨.readWrite, dst, offset, 8, true⟩
  | .atomicFetchAnd64 dst _ offset => some ⟨.readWrite, dst, offset, 8, true⟩
  | .atomicXor64 dst _ offset => some ⟨.readWrite, dst, offset, 8, true⟩
  | .atomicFetchXor64 dst _ offset => some ⟨.readWrite, dst, offset, 8, true⟩
  | .atomicXchg64 dst _ offset => some ⟨.readWrite, dst, offset, 8, true⟩
  | .atomicCmpxchg64 dst _ offset => some ⟨.readWrite, dst, offset, 8, true⟩
  | .ldImm64 _ _ _ => none
  | .ldMapFd _ _ => none
  | .ldMapFdVal _ _ _ => none
  | .ldVarAddr _ _ => none
  | .ldCodeAddr _ _ => none
  | .ldMapIdx _ _ => none
  | .ldMapIdxVal _ _ _ => none
  | .ldAbsW _ _ _ _ => none
  | .ldAbsH _ _ _ _ => none
  | .ldAbsB _ _ _ _ => none
  | .ldAbsDw _ _ _ _ => none
  | .ldIndW _ _ _ _ => none
  | .ldIndH _ _ _ _ => none
  | .ldIndB _ _ _ _ => none
  | .ldIndDw _ _ _ _ => none

/-- Every opcode byte that some instruction has (R152 to R154, the legacy ones of R531 among them). -/
def definedOpcodes : List Byte := [
  0x04#8, 0x05#8, 0x06#8, 0x07#8, 0x0c#8, 0x0f#8, 0x14#8, 0x15#8, 0x16#8, 0x17#8, 0x18#8, 0x1c#8, 0x1d#8,
  0x1e#8, 0x1f#8, 0x20#8, 0x24#8, 0x25#8, 0x26#8, 0x27#8, 0x28#8, 0x2c#8, 0x2d#8, 0x2e#8, 0x2f#8, 0x30#8,
  0x34#8, 0x35#8, 0x36#8, 0x37#8, 0x38#8, 0x3c#8, 0x3d#8, 0x3e#8, 0x3f#8, 0x40#8, 0x44#8, 0x45#8, 0x46#8,
  0x47#8, 0x48#8, 0x4c#8, 0x4d#8, 0x4e#8, 0x4f#8, 0x50#8, 0x54#8, 0x55#8, 0x56#8, 0x57#8, 0x58#8, 0x5c#8,
  0x5d#8, 0x5e#8, 0x5f#8, 0x61#8, 0x62#8, 0x63#8, 0x64#8, 0x65#8, 0x66#8, 0x67#8, 0x69#8, 0x6a#8, 0x6b#8,
  0x6c#8, 0x6d#8, 0x6e#8, 0x6f#8, 0x71#8, 0x72#8, 0x73#8, 0x74#8, 0x75#8, 0x76#8, 0x77#8, 0x79#8, 0x7a#8,
  0x7b#8, 0x7c#8, 0x7d#8, 0x7e#8, 0x7f#8, 0x81#8, 0x84#8, 0x85#8, 0x87#8, 0x89#8, 0x91#8, 0x94#8, 0x95#8,
  0x97#8, 0x9c#8, 0x9f#8, 0xa4#8, 0xa5#8, 0xa6#8, 0xa7#8, 0xac#8, 0xad#8, 0xae#8, 0xaf#8, 0xb4#8, 0xb5#8,
  0xb6#8, 0xb7#8, 0xbc#8, 0xbd#8, 0xbe#8, 0xbf#8, 0xc3#8, 0xc4#8, 0xc5#8, 0xc6#8, 0xc7#8, 0xcc#8, 0xcd#8,
  0xce#8, 0xcf#8, 0xd4#8, 0xd5#8, 0xd6#8, 0xd7#8, 0xdb#8, 0xdc#8, 0xdd#8, 0xde#8]

end Sys2Proof

namespace Sys2Proof.Machine

/-- The address of an access (R86), where the base register holds a value. -/
def State.accessAddress (s : State) (x : Access) : Option Word :=
  (s.reg x.base).map fun base => effectiveAddress base x.offset

/-- An access of `n` bytes at `a` is aligned as R87 and R88 ask. -/
def State.alignedFor (s : State) (x : Access) (a : Nat) : Prop :=
  (x.alwaysAligned = true ∨ s.params.strictAlign = true) → a % x.bytes = 0

/-- Admission in the words of R91. -/
def State.admitted (s : State) (kind : AccessKind) (a n : Nat) : Prop :=
  a + n ≤ 2 ^ 64 ∧
  ∃ r ∈ s.params.regions, r.base.toNat ≤ a ∧ a + n ≤ r.base.toNat + r.length ∧
    match kind with
    | .read => r.readable = true
    | .write => r.writable = true
    | .readWrite => r.readable = true ∧ r.writable = true

/-- Where byte `k` of an `n`-byte value stands, counted from its lowest address (R82). -/
def bytePlace (e : Endian) (n k : Nat) : Nat :=
  match e with
  | .little => k
  | .big => n - 1 - k

/-- `v` is a value that a read of `n` bytes at `a` may give (R82, R93): it has `8n` bits, and each of its bytes whose place
holds a sure value is that value. A byte without one is free. -/
def State.reads (s : State) (a n : Nat) (v : Word) : Prop :=
  v.toNat < 2 ^ (8 * n) ∧
  ∀ k, k < n → ∀ b, s.byteAt (a + bytePlace s.params.endian n k) = some b → v.extractLsb' (8 * k) 8 = b

/-- `t` holds the low `n` bytes of `v` at `a` (R82), and every other byte as in `s`. -/
def State.stored (s t : State) (a n : Nat) (v : Word) : Prop :=
  (∀ k, k < n → t.mem.read (a + bytePlace s.params.endian n k) = some (v.extractLsb' (8 * k) 8)) ∧
  ∀ x, x < a ∨ a + n ≤ x → t.mem.read x = s.mem.read x

/-- Register 10 of each active function is its caller's minus `STACK_SIZE` (R405): `top` is the innermost one's. -/
def linked (stackSize : Nat) : Option Word → List Frame → Prop
  | _, [] => True
  | top, fr :: rest => top = some (fr.fp - BitVec.ofNat 64 stackSize) ∧ linked stackSize (some fr.fp) rest

/-- The invariant of a run: memory in canonical form; every listed byte in a region (R57); at most `MAX_CALL_DEPTH` active
functions, and the frame pointers in steps of `STACK_SIZE` (R405). -/
structure State.Inv (s : State) : Prop where
  memory : s.mem.wf
  admitted : ∀ c ∈ s.mem.cells, ∃ r ∈ s.params.regions,
    r.base.toNat ≤ c.1 ∧ c.1 < r.base.toNat + r.length
  depth : s.activeFunctions ≤ s.params.maxCallDepth
  frames : linked s.params.stackSize (s.reg .r10) s.frames

end Sys2Proof.Machine
end

