-- ==== Sys2Proof/Certificates/Slice0/Obligations.lean ====
section
/-! DEFINITION. The statements for the provers. Each docstring says what is claimed; OBLIGATIONS.json names the rules. -/

section

open Sys2Proof Sys2Proof.Machine

/-- For every byte order and every well-formed instruction, the encoder writes one slot or two; the decoder reads the
instruction back from the one slot whatever slot follows it, or from the two slots. -/
def Obligations.DecodeInvertsEncode : Prop :=
  ∀ (e : Endian) (i : Instr), i.wf = true →
    match encode e i with
    | [a] => ∀ after : Option Slot, decode e a after = .ok i
    | [a, b] => decode e a (some b) = .ok i
    | _ => False

/-- Whenever the decoder answers an instruction, that instruction is well-formed, the slot is bit for bit its first
encoded slot, and for a wide instruction the slot after it exists and is bit for bit its second encoded slot. So no
unused field is ever non-zero and no register field is above 10. -/
def Obligations.DecodeAcceptsOnlyEncodings : Prop :=
  ∀ (e : Endian) (a : Slot) (after : Option Slot) (i : Instr), decode e a after = .ok i →
    i.wf = true ∧
    match encode e i with
    | [x] => a = x
    | [x, y] => a = x ∧ after = some y
    | _ => False

/-- Whenever the decoder answers an instruction for a slot, the instruction takes two slots if byte 0 of the slot is
0x18, and one slot otherwise. R142 is an inference that the spec marks as its own: [derived: from rule R139 and the
table of 64-bit immediate instructions, the only users of the wide encoding]. -/
def Obligations.OpcodeByteTellsLength : Prop :=
  ∀ (e : Endian) (a : Slot) (after : Option Slot) (i : Instr), decode e a after = .ok i →
    i.slots = if a.b0 = 0x18#8 then 2 else 1

/-- A slot whose first byte is none of the opcode bytes of R152 to R154 decodes to no instruction: the decoder names the
undefined opcode, whatever the rest of the slot, the slot after it and the byte order are. R157 asks for the refusal;
the reason undefinedOpcode, and that the opcode is the first thing found, are the model's choice
(notes/assumptions/12.md). -/
def Obligations.UndefinedOpcodesAreRefused : Prop :=
  ∀ (e : Endian) (a : Slot) (after : Option Slot),
    a.b0 ∉ definedOpcodes →
    decode e a after = .error (.undefinedOpcode a.b0)

/-- For every instruction term whose written register field is register 10, the slots that encode it decode to no
instruction: the decoder answers that it would write the frame pointer. R44 and R476 ask for the refusal; the name of
the reason, writesFramePointer, is the model's choice (notes/assumptions/12.md). -/
def Obligations.FramePointerWritesAreRefused : Prop :=
  ∀ (e : Endian) (i : Instr), i.wf = false →
    decode e (i.fields.toSlot e) (i.secondFields.map (Fields.toSlot e)) = .error .writesFramePointer

/-- The fields of a slot in little-endian BPF are the fields of the 64-bit word whose byte k is byte k of the slot. -/
def Obligations.LittleEndianSlotIsCanonicalWord : Prop :=
  ∀ w : Slot, Fields.ofSlot .little w =
    Fields.ofWord (w.b7 ++ w.b6 ++ w.b5 ++ w.b4 ++ w.b3 ++ w.b2 ++ w.b1 ++ w.b0)

/-- The spec's own example r1 += 0x11223344 in both byte orders, the wide constant of R140, and one word each of byte
swap, jump, call, load, store, atomic and 64-bit immediate decode to the instructions they encode. -/
def Obligations.SampleWordsDecode : Prop :=
  decode .little ⟨0x07, 0x01, 0x00, 0x00, 0x44, 0x33, 0x22, 0x11⟩ none = .ok (.add64Imm .r1 0x11223344) ∧
  decode .big ⟨0x07, 0x10, 0x00, 0x00, 0x11, 0x22, 0x33, 0x44⟩ none = .ok (.add64Imm .r1 0x11223344) ∧
  decode .little ⟨0x18, 0x02, 0x00, 0x00, 0x11, 0x22, 0x33, 0x44⟩
    (some ⟨0x00, 0x00, 0x00, 0x00, 0x55, 0x66, 0x77, 0x88⟩) = .ok (.ldImm64 .r2 0x44332211 0x88776655) ∧
  decode .big ⟨0xdc, 0x50, 0x00, 0x00, 0x00, 0x00, 0x00, 0x20⟩ none = .ok (.be32 .r5) ∧
  decode .little ⟨0x7e, 0x21, 0x05, 0x00, 0x00, 0x00, 0x00, 0x00⟩ none = .ok (.jsge32Reg .r1 .r2 5) ∧
  decode .little ⟨0x85, 0x10, 0x00, 0x00, 0x03, 0x00, 0x00, 0x00⟩ none = .ok (.callLocal 3) ∧
  decode .little ⟨0x91, 0xa4, 0xff, 0xff, 0x00, 0x00, 0x00, 0x00⟩ none = .ok (.ldxsxB .r4 .r10 0xffff) ∧
  decode .big ⟨0x7b, 0xa1, 0xff, 0xf8, 0x00, 0x00, 0x00, 0x00⟩ none = .ok (.stxDw .r10 .r1 0xfff8) ∧
  decode .little ⟨0xc3, 0x31, 0x08, 0x00, 0x01, 0x00, 0x00, 0x00⟩ none = .ok (.atomicFetchAdd32 .r1 .r3 8)

/-- In status running, if the slot at pc exists and decodes, with the slot after it, to an instruction, then step runs
exec of that instruction at the same state. Without other agents step is exec. With them (R97) a fault of exec is the
fault of step, and a next state of exec is followed by their turn: memory may differ in the bytes they may change,
and in no byte once the run has ended; the counter of their turns may differ; nothing else does. Each meaning moves
pc itself. That their turn comes after an instruction, and its counter, are the model's choice
(notes/assumptions/6.md). -/
def Obligations.StepRunsDecodedInstruction : Prop :=
  ∀ (s : State) (a : Slot) (i : Instr), s.status = .running → s.slotAt s.pc = some a →
    decode s.params.endian a (s.slotAt (s.pc + 1)) = .ok i → i.wf = true →
    (s.params.externalAgents = false → step s = exec i s) ∧
    (∀ k, exec i s = .fault k → step s = .fault k) ∧
    ∀ t, exec i s = .next t → ∃ u, step s = .next u ∧ u = { t with mem := u.mem, turns := u.turns } ∧
      (∀ x, t.params.interferes x = false → u.mem.read x = t.mem.read x) ∧ (t.status ≠ .running → u = t)

/-- In status running, if the slots of a well-formed instruction in the launch's byte order stand in PROGRAM at index pc,
then step is exec of that instruction followed by the other agents' turn (R97; notes/assumptions/6.md), whatever
stands around them. -/
def Obligations.StepRunsPlacedEncoding : Prop :=
  ∀ (s : State) (i : Instr) (before after : List Slot), s.status = .running → i.wf = true →
    s.params.program = before ++ encode s.params.endian i ++ after → s.pc = before.length →
    step s = othersFollow (exec i s)

/-- In status running, the step answers the fault PcOutOfRange for some recorded value if and only if pc is below 0 or at
or above the number of slots, and the recorded value is then pc. No instruction raises it. -/
def Obligations.PcOutOfRangeExactlyOutsideProgram : Prop :=
  ∀ s : State, s.status = .running →
    ∀ p : Int, step s = .fault (.pcOutOfRange p) ↔ p = s.pc ∧ (s.pc < 0 ∨ (s.params.program.length : Int) ≤ s.pc)

/-- In status running, the step answers a next state or a fault; no instruction of the table is left without an outcome. -/
def Obligations.RunningStepNeverRefuses : Prop :=
  ∀ s : State, s.status = .running → (∃ t, step s = .next t) ∨ ∃ k, step s = .fault k

/-- If the step at a state raises a fault, the run goes on to the same state with status faulted and that fault:
registers, memory, pc, call stack and everything else are those before the step. That the run records the fault by a
function over the step is the model's choice (notes/assumptions/1.md), and so are the counters of draws, calls and
turns (notes/assumptions/5.md, 6.md, 7.md). -/
def Obligations.FaultChangesOnlyStatus : Prop :=
  ∀ (s : State) (k : Fault), step s = .fault k →
    s.advance.status = .faulted k ∧ s.advance.regs = s.regs ∧ s.advance.pc = s.pc ∧ s.advance.frames = s.frames ∧
    s.advance.mem = s.mem ∧ s.advance.params = s.params ∧ s.advance.draws = s.draws ∧ s.advance.calls = s.calls ∧
    s.advance.turns = s.turns

/-- If the run status is exited or faulted, the step is refused because the run has ended, and the run after any number
of steps is the same state. R59 and R608 say that no step follows; that the step then answers the refusal runEnded is
the model's choice (notes/assumptions/13.md). -/
def Obligations.EndedRunStaysAsItIs : Prop :=
  ∀ s : State, s.status ≠ .running → step s = .refused .runEnded ∧ ∀ n, s.run n = s

/-- After a launch: pc is 0 and the slot fetched is slot 0 of PROGRAM; each register holds what ENTRY_REGS gives it, or
no value; the call stack is empty; memory holds the given bytes and no other; the status is running; the parameters
are the given ones. -/
def Obligations.LaunchSetsEntryState : Prop :=
  ∀ (p : Params) (entryRegs : RegFile) (m : Memory),
    let s := State.launch p entryRegs m
    s.pc = 0 ∧ s.slotAt s.pc = p.program[0]? ∧ (∀ r, s.reg r = entryRegs.get r) ∧ s.frames = [] ∧
    (∀ a, s.mem.read a = m.read a) ∧ s.status = .running ∧ s.params = p

/-- In status running, if the slot at pc, with the slot after it, does not decode, the step raises IllegalEncoding with
pc, the slot and the decoder's reason, whatever the reason is. If its opcode byte is 0x00, as that of the second slot
of a wide instruction is, the reason is the undefined opcode. R542 and R143 give the fault, pc and the slot; the
reasons are the model's choice (notes/assumptions/12.md). -/
def Obligations.JumpIntoSecondSlotIsIllegal : Prop :=
  ∀ (s : State) (a : Slot), s.status = .running → s.slotAt s.pc = some a →
    (∀ why, decode s.params.endian a (s.slotAt (s.pc + 1)) = .error why →
      step s = .fault (.illegalEncoding s.pc (some a) why)) ∧
    (a.b0 = 0x00#8 → step s = .fault (.illegalEncoding s.pc (some a) (.undefinedOpcode 0x00#8)))

/-- For each of the eight legacy instructions and every value of its fields, exec answers the fault Unmodelled with its
opcode; and in status running the step at a slot with one of the eight opcode bytes answers that fault, whatever the
other seven bytes hold. -/
def Obligations.LegacyPacketAccessIsUnmodelled : Prop :=
  (∀ (s : State) (dst src : BitVec 4) (offset : BitVec 16) (imm : Word32),
    exec (.ldAbsW dst src offset imm) s = .fault (.unmodelled 0x20#8) ∧
    exec (.ldAbsH dst src offset imm) s = .fault (.unmodelled 0x28#8) ∧
    exec (.ldAbsB dst src offset imm) s = .fault (.unmodelled 0x30#8) ∧
    exec (.ldAbsDw dst src offset imm) s = .fault (.unmodelled 0x38#8) ∧
    exec (.ldIndW dst src offset imm) s = .fault (.unmodelled 0x40#8) ∧
    exec (.ldIndH dst src offset imm) s = .fault (.unmodelled 0x48#8) ∧
    exec (.ldIndB dst src offset imm) s = .fault (.unmodelled 0x50#8) ∧
    exec (.ldIndDw dst src offset imm) s = .fault (.unmodelled 0x58#8)) ∧
  ∀ (s : State) (a : Slot), s.status = .running → s.slotAt s.pc = some a →
    a.b0 ∈ [0x20#8, 0x28#8, 0x30#8, 0x38#8, 0x40#8, 0x48#8, 0x50#8, 0x58#8] →
    step s = .fault (.unmodelled a.b0)

/-- For dst other than register 10 and the registers read holding values, each of add, sub, mul, div, sdiv, or, and, lsh,
rsh, mod, smod, xor, arsh in its 64-bit immediate form answers the state with the result in dst, pc one further, and
nothing else changed. Signed modulo is the remainder of truncated division, a zero divisor gives 0 for division and
the dividend for modulo, and shift counts are taken modulo the width. The immediate is sign-extended to 64 bits. -/
def Obligations.Alu64ImmediateResults : Prop :=
  ∀ (s : State) (dst : Reg) (imm : Word32) (a : Word), dst ≠ .r10 → s.reg dst = some a →
    let b : Word := imm.signExtend 64
    let done : Word → Result := fun v => .next { s with regs := s.regs.put dst (some (v)), pc := s.pc + 1 }
    exec (.add64Imm dst imm) s = done (a + b) ∧
    exec (.sub64Imm dst imm) s = done (a - b) ∧
    exec (.mul64Imm dst imm) s = done (a * b) ∧
    exec (.div64Imm dst imm) s = done (if b = 0 then 0 else BitVec.ofNat 64 (a.toNat / b.toNat)) ∧
    exec (.sdiv64Imm dst imm) s = done (if b = 0 then 0 else BitVec.ofInt 64 (a.toInt.tdiv b.toInt)) ∧
    exec (.or64Imm dst imm) s = done (a ||| b) ∧
    exec (.and64Imm dst imm) s = done (a &&& b) ∧
    exec (.lsh64Imm dst imm) s = done (a <<< (b.toNat % 64)) ∧
    exec (.rsh64Imm dst imm) s = done (a >>> (b.toNat % 64)) ∧
    exec (.mod64Imm dst imm) s = done (if b = 0 then a else BitVec.ofNat 64 (a.toNat % b.toNat)) ∧
    exec (.smod64Imm dst imm) s = done (if b = 0 then a else BitVec.ofInt 64 (a.toInt.tmod b.toInt)) ∧
    exec (.xor64Imm dst imm) s = done (a ^^^ b) ∧
    exec (.arsh64Imm dst imm) s = done (a.sshiftRight (b.toNat % 64))

/-- For dst other than register 10 and the registers read holding values, each of add, sub, mul, div, sdiv, or, and, lsh,
rsh, mod, smod, xor, arsh in its 64-bit register form answers the state with the result in dst, pc one further, and
nothing else changed. Signed modulo is the remainder of truncated division, a zero divisor gives 0 for division and
the dividend for modulo, and shift counts are taken modulo the width. -/
def Obligations.Alu64RegisterResults : Prop :=
  ∀ (s : State) (dst src : Reg) (a b : Word), dst ≠ .r10 → s.reg dst = some a → s.reg src = some b →
    let done : Word → Result := fun v => .next { s with regs := s.regs.put dst (some (v)), pc := s.pc + 1 }
    exec (.add64Reg dst src) s = done (a + b) ∧
    exec (.sub64Reg dst src) s = done (a - b) ∧
    exec (.mul64Reg dst src) s = done (a * b) ∧
    exec (.div64Reg dst src) s = done (if b = 0 then 0 else BitVec.ofNat 64 (a.toNat / b.toNat)) ∧
    exec (.sdiv64Reg dst src) s = done (if b = 0 then 0 else BitVec.ofInt 64 (a.toInt.tdiv b.toInt)) ∧
    exec (.or64Reg dst src) s = done (a ||| b) ∧
    exec (.and64Reg dst src) s = done (a &&& b) ∧
    exec (.lsh64Reg dst src) s = done (a <<< (b.toNat % 64)) ∧
    exec (.rsh64Reg dst src) s = done (a >>> (b.toNat % 64)) ∧
    exec (.mod64Reg dst src) s = done (if b = 0 then a else BitVec.ofNat 64 (a.toNat % b.toNat)) ∧
    exec (.smod64Reg dst src) s = done (if b = 0 then a else BitVec.ofInt 64 (a.toInt.tmod b.toInt)) ∧
    exec (.xor64Reg dst src) s = done (a ^^^ b) ∧
    exec (.arsh64Reg dst src) s = done (a.sshiftRight (b.toNat % 64))

/-- For dst other than register 10 and the registers read holding values, each of add, sub, mul, div, sdiv, or, and, lsh,
rsh, mod, smod, xor, arsh in its 32-bit immediate form answers the state with the result in dst, zero-extended from
the low halves, pc one further, and nothing else changed. Signed modulo is the remainder of truncated division, a
zero divisor gives 0 for division and the dividend for modulo, and shift counts are taken modulo the width. -/
def Obligations.Alu32ImmediateResults : Prop :=
  ∀ (s : State) (dst : Reg) (imm : Word32) (x : Word), dst ≠ .r10 → s.reg dst = some x →
    let a : Word32 := x.setWidth 32
    let b : Word32 := imm
    let done : Word32 → Result := fun v => .next { s with regs := s.regs.put dst (some (v.setWidth 64)), pc := s.pc + 1 }
    exec (.add32Imm dst imm) s = done (a + b) ∧
    exec (.sub32Imm dst imm) s = done (a - b) ∧
    exec (.mul32Imm dst imm) s = done (a * b) ∧
    exec (.div32Imm dst imm) s = done (if b = 0 then 0 else BitVec.ofNat 32 (a.toNat / b.toNat)) ∧
    exec (.sdiv32Imm dst imm) s = done (if b = 0 then 0 else BitVec.ofInt 32 (a.toInt.tdiv b.toInt)) ∧
    exec (.or32Imm dst imm) s = done (a ||| b) ∧
    exec (.and32Imm dst imm) s = done (a &&& b) ∧
    exec (.lsh32Imm dst imm) s = done (a <<< (b.toNat % 32)) ∧
    exec (.rsh32Imm dst imm) s = done (a >>> (b.toNat % 32)) ∧
    exec (.mod32Imm dst imm) s = done (if b = 0 then a else BitVec.ofNat 32 (a.toNat % b.toNat)) ∧
    exec (.smod32Imm dst imm) s = done (if b = 0 then a else BitVec.ofInt 32 (a.toInt.tmod b.toInt)) ∧
    exec (.xor32Imm dst imm) s = done (a ^^^ b) ∧
    exec (.arsh32Imm dst imm) s = done (a.sshiftRight (b.toNat % 32))

/-- For dst other than register 10 and the registers read holding values, each of add, sub, mul, div, sdiv, or, and, lsh,
rsh, mod, smod, xor, arsh in its 32-bit register form answers the state with the result in dst, zero-extended from
the low halves, pc one further, and nothing else changed. Signed modulo is the remainder of truncated division, a
zero divisor gives 0 for division and the dividend for modulo, and shift counts are taken modulo the width. -/
def Obligations.Alu32RegisterResults : Prop :=
  ∀ (s : State) (dst src : Reg) (x y : Word), dst ≠ .r10 → s.reg dst = some x → s.reg src = some y →
    let a : Word32 := x.setWidth 32
    let b : Word32 := y.setWidth 32
    let done : Word32 → Result := fun v => .next { s with regs := s.regs.put dst (some (v.setWidth 64)), pc := s.pc + 1 }
    exec (.add32Reg dst src) s = done (a + b) ∧
    exec (.sub32Reg dst src) s = done (a - b) ∧
    exec (.mul32Reg dst src) s = done (a * b) ∧
    exec (.div32Reg dst src) s = done (if b = 0 then 0 else BitVec.ofNat 32 (a.toNat / b.toNat)) ∧
    exec (.sdiv32Reg dst src) s = done (if b = 0 then 0 else BitVec.ofInt 32 (a.toInt.tdiv b.toInt)) ∧
    exec (.or32Reg dst src) s = done (a ||| b) ∧
    exec (.and32Reg dst src) s = done (a &&& b) ∧
    exec (.lsh32Reg dst src) s = done (a <<< (b.toNat % 32)) ∧
    exec (.rsh32Reg dst src) s = done (a >>> (b.toNat % 32)) ∧
    exec (.mod32Reg dst src) s = done (if b = 0 then a else BitVec.ofNat 32 (a.toNat % b.toNat)) ∧
    exec (.smod32Reg dst src) s = done (if b = 0 then a else BitVec.ofInt 32 (a.toInt.tmod b.toInt)) ∧
    exec (.xor32Reg dst src) s = done (a ^^^ b) ∧
    exec (.arsh32Reg dst src) s = done (a.sshiftRight (b.toNat % 32))

/-- For dst other than register 10: MOV writes the sign-extended immediate or the source register (its low half zero-
extended in class BPF_ALU) without reading dst; MOVSX writes a value whose signed reading is that of the low 8, 16 or
32 bits of the source (in class BPF_ALU as a 32-bit value, zero-extended); NEG writes the two's complement negation
(of the low half, zero-extended, in class BPF_ALU). pc moves one further and nothing else changes. -/
def Obligations.MoveAndNegateResults : Prop :=
  ∀ (s : State) (dst src : Reg) (imm : Word32) (x : Word), dst ≠ .r10 →
    let done : Word → Result := fun v => .next { s with regs := s.regs.put dst (some v), pc := s.pc + 1 }
    exec (.mov64Imm dst imm) s = done (imm.signExtend 64) ∧
    exec (.mov32Imm dst imm) s = done (imm.setWidth 64) ∧
    (s.reg src = some x →
      exec (.mov64Reg dst src) s = done x ∧
      exec (.mov32Reg dst src) s = done ((x.setWidth 32).setWidth 64) ∧
      (∃ v : Word, v.toInt = (x.setWidth 8).toInt ∧ exec (.movsx64From8 dst src) s = done v) ∧
      (∃ v : Word, v.toInt = (x.setWidth 16).toInt ∧ exec (.movsx64From16 dst src) s = done v) ∧
      (∃ v : Word, v.toInt = (x.setWidth 32).toInt ∧ exec (.movsx64From32 dst src) s = done v) ∧
      (∃ v : Word32, v.toInt = (x.setWidth 8).toInt ∧ exec (.movsx32From8 dst src) s = done (v.setWidth 64)) ∧
      (∃ v : Word32, v.toInt = (x.setWidth 16).toInt ∧ exec (.movsx32From16 dst src) s = done (v.setWidth 64))) ∧
    (s.reg dst = some x →
      exec (.neg64 dst) s = done (-x) ∧
      exec (.neg32 dst) s = done ((-(x.setWidth 32)).setWidth 64))

/-- For dst other than register 10 holding a value and N = 16, 32, 64: byte k of the result of leN on a big-endian
platform, of beN on a little-endian platform and of bswapN on both is byte N/8 - 1 - k of the old value; leN on a
little-endian and beN on a big-endian platform keep the bytes in place; all bits from N up are zero. pc moves one
further and nothing else changes. -/
def Obligations.ByteSwapResults : Prop :=
  ∀ (s : State) (dst : Reg) (x : Word), dst ≠ .r10 → s.reg dst = some x →
    let swapped : Instr → Nat → Bool → Prop := fun i n reverse =>
      ∃ v : Word, exec i s = .next { s with regs := s.regs.put dst (some v), pc := s.pc + 1 } ∧
        v.toNat < 2 ^ (8 * n) ∧
        ∀ k, k < n → v.extractLsb' (8 * k) 8 = x.extractLsb' (8 * (if reverse then n - 1 - k else k)) 8
    swapped (.le16 dst) 2 (decide (s.params.endian = .big)) ∧
    swapped (.le32 dst) 4 (decide (s.params.endian = .big)) ∧
    swapped (.le64 dst) 8 (decide (s.params.endian = .big)) ∧
    swapped (.be16 dst) 2 (decide (s.params.endian = .little)) ∧
    swapped (.be32 dst) 4 (decide (s.params.endian = .little)) ∧
    swapped (.be64 dst) 8 (decide (s.params.endian = .little)) ∧
    swapped (.bswap16 dst) 2 (true) ∧
    swapped (.bswap32 dst) 4 (true) ∧
    swapped (.bswap64 dst) 8 (true)

/-- For dst other than register 10 holding a value: with an immediate 0, or a source register whose value (whose low 32
bits in class BPF_ALU) is zero, each of div, sdiv completes with 0 in dst and each of mod, smod completes with the
old value (its low half zero-extended in class BPF_ALU). -/
def Obligations.ZeroDivisorIsNoFault : Prop :=
  ∀ (s : State) (dst src : Reg) (x y : Word), dst ≠ .r10 → s.reg dst = some x → s.reg src = some y →
    let done : Word → Result := fun v => .next { s with regs := s.regs.put dst (some v), pc := s.pc + 1 }
    exec (.div64Imm dst 0) s = done (0) ∧
    exec (.sdiv64Imm dst 0) s = done (0) ∧
    exec (.mod64Imm dst 0) s = done (x) ∧
    exec (.smod64Imm dst 0) s = done (x) ∧
    exec (.div32Imm dst 0) s = done (0) ∧
    exec (.sdiv32Imm dst 0) s = done (0) ∧
    exec (.mod32Imm dst 0) s = done ((x.setWidth 32).setWidth 64) ∧
    exec (.smod32Imm dst 0) s = done ((x.setWidth 32).setWidth 64) ∧
    (y = 0 →
      exec (.div64Reg dst src) s = done (0) ∧
      exec (.sdiv64Reg dst src) s = done (0) ∧
      exec (.mod64Reg dst src) s = done (x) ∧
      exec (.smod64Reg dst src) s = done (x)) ∧
    (y.setWidth 32 = (0 : Word32) →
      exec (.div32Reg dst src) s = done (0) ∧
      exec (.sdiv32Reg dst src) s = done (0) ∧
      exec (.mod32Reg dst src) s = done ((x.setWidth 32).setWidth 64) ∧
      exec (.smod32Reg dst src) s = done ((x.setWidth 32).setWidth 64))

/-- For dst other than register 10 and a non-zero divisor (a register; its low half in class BPF_ALU), sdiv completes
with a quotient whose signed reading is the exact quotient rounded toward zero, except that the most negative value
divided by -1 gives the most negative value; smod completes with a remainder whose signed reading is exactly the
dividend minus the divisor times that exact quotient. -/
def Obligations.SignedDivisionTruncates : Prop :=
  ∀ (s : State) (dst src : Reg) (x y : Word), dst ≠ .r10 → s.reg dst = some x → s.reg src = some y →
    let done : Word → Result := fun v => .next { s with regs := s.regs.put dst (some v), pc := s.pc + 1 }
    (y ≠ 0 → ∃ q r : Word,
      exec (.sdiv64Reg dst src) s = done q ∧ exec (.smod64Reg dst src) s = done r ∧
      q.toInt = (if x.toInt = -(2 ^ 63) ∧ y.toInt = -1 then -(2 ^ 63) else x.toInt.tdiv y.toInt) ∧
      r.toInt = x.toInt - y.toInt * x.toInt.tdiv y.toInt) ∧
    (y.setWidth 32 ≠ (0 : Word32) → ∃ q r : Word32,
      exec (.sdiv32Reg dst src) s = done (q.setWidth 64) ∧ exec (.smod32Reg dst src) s = done (r.setWidth 64) ∧
      q.toInt = (if (x.setWidth 32).toInt = -(2 ^ 31) ∧ (y.setWidth 32).toInt = -1 then -(2 ^ 31)
        else (x.setWidth 32).toInt.tdiv (y.setWidth 32).toInt) ∧
      r.toInt = (x.setWidth 32).toInt -
        (y.setWidth 32).toInt * (x.setWidth 32).toInt.tdiv (y.setWidth 32).toInt)

/-- For dst other than register 10 and a count in a register: LSH gives the value times 2^k modulo 2^64, RSH the unsigned
value divided by 2^k, ARSH the signed value divided by 2^k rounding down, with k the count modulo 64; in class
BPF_ALU the same at width 32 on the low halves with k modulo 32, zero-extended. Each completes. -/
def Obligations.ShiftsAreMaskedArithmetic : Prop :=
  ∀ (s : State) (dst src : Reg) (x y : Word), dst ≠ .r10 → s.reg dst = some x → s.reg src = some y →
    let done : Word → Result := fun v => .next { s with regs := s.regs.put dst (some v), pc := s.pc + 1 }
    (∃ v : Word, v.toNat = x.toNat * 2 ^ (y.toNat % 64) % 2 ^ 64 ∧ exec (.lsh64Reg dst src) s = done v) ∧
    (∃ v : Word, v.toNat = x.toNat / 2 ^ (y.toNat % 64) ∧ exec (.rsh64Reg dst src) s = done v) ∧
    (∃ v : Word, v.toInt = x.toInt / 2 ^ (y.toNat % 64) ∧ exec (.arsh64Reg dst src) s = done v) ∧
    (∃ v : Word32, v.toNat = (x.setWidth 32).toNat * 2 ^ (y.toNat % 32) % 2 ^ 32 ∧
      exec (.lsh32Reg dst src) s = done (v.setWidth 64)) ∧
    (∃ v : Word32, v.toNat = (x.setWidth 32).toNat / 2 ^ (y.toNat % 32) ∧
      exec (.rsh32Reg dst src) s = done (v.setWidth 64)) ∧
    (∃ v : Word32, v.toInt = (x.setWidth 32).toInt / 2 ^ (y.toNat % 32) ∧
      exec (.arsh32Reg dst src) s = done (v.setWidth 64))

/-- Two states that differ only in the upper halves of registers (same registers hold values, low halves equal) agree
after any instruction of class BPF_ALU other than byte swap and any instruction of class BPF_JMP32: if one completes
so does the other, with the same pc, the same register written, and the same content in it. -/
def Obligations.Alu32IgnoresUpperHalves : Prop :=
  ∀ (s u : State) (i : Instr) (t : State), u = { s with regs := u.regs } →
    (∀ r, (u.reg r).map (BitVec.setWidth 32) = (s.reg r).map (BitVec.setWidth 32)) →
    (i.fields.opcode.extractLsb' 0 3 = 6#3 ∨
      (i.fields.opcode.extractLsb' 0 3 = 4#3 ∧ i.fields.opcode.extractLsb' 4 4 ≠ 0xd#4)) →
    exec i s = .next t →
    ∃ v, exec i u = .next v ∧ v = { t with regs := v.regs } ∧ ∀ r ∈ i.writes, v.reg r = t.reg r

/-- After any completed instruction of class BPF_ALU other than byte swap, the register it writes holds a value whose
bits 63:32 are zero. -/
def Obligations.Alu32ZeroesUpperHalf : Prop :=
  ∀ (s t : State) (i : Instr), i.fields.opcode.extractLsb' 0 3 = 4#3 → i.fields.opcode.extractLsb' 4 4 ≠ 0xd#4 →
    exec i s = .next t → ∃ r v, i.writes = [r] ∧ t.reg r = some v ∧ v.toNat < 2 ^ 32

/-- ja moves pc to pc + 1 plus its signed 16-bit offset and ja32 to pc + 1 plus its signed 32-bit immediate; nothing else
changes. Both complete in every state. -/
def Obligations.UnconditionalJumps : Prop :=
  ∀ (s : State) (offset : BitVec 16) (imm : Word32),
    exec (.ja offset) s = .next { s with pc := s.pc + 1 + offset.toInt } ∧
    exec (.ja32 imm) s = .next { s with pc := s.pc + 1 + imm.toInt }

/-- With the registers read holding values, each of the eleven 64-bit immediate conditional jumps completes: pc becomes
pc + 1 plus the signed offset if the condition holds between the 64-bit operands, else pc + 1; nothing else changes.
jgt, jge, jlt, jle compare as unsigned, jsgt, jsge, jslt, jsle as signed numbers; jset asks for a common bit. -/
def Obligations.Jump64ImmediateBranches : Prop :=
  ∀ (s : State) (dst : Reg) (imm : Word32) (offset : BitVec 16) (a : Word), s.reg dst = some a →
    let b : Word := imm.signExtend 64
    let taken : Result := .next { s with pc := s.pc + 1 + offset.toInt }
    let notTaken : Result := .next { s with pc := s.pc + 1 }
    exec (.jeq64Imm dst imm offset) s = (if a = b then taken else notTaken) ∧
    exec (.jgt64Imm dst imm offset) s = (if a.toNat > b.toNat then taken else notTaken) ∧
    exec (.jge64Imm dst imm offset) s = (if a.toNat ≥ b.toNat then taken else notTaken) ∧
    exec (.jset64Imm dst imm offset) s = (if a &&& b ≠ 0 then taken else notTaken) ∧
    exec (.jne64Imm dst imm offset) s = (if a ≠ b then taken else notTaken) ∧
    exec (.jsgt64Imm dst imm offset) s = (if a.toInt > b.toInt then taken else notTaken) ∧
    exec (.jsge64Imm dst imm offset) s = (if a.toInt ≥ b.toInt then taken else notTaken) ∧
    exec (.jlt64Imm dst imm offset) s = (if a.toNat < b.toNat then taken else notTaken) ∧
    exec (.jle64Imm dst imm offset) s = (if a.toNat ≤ b.toNat then taken else notTaken) ∧
    exec (.jslt64Imm dst imm offset) s = (if a.toInt < b.toInt then taken else notTaken) ∧
    exec (.jsle64Imm dst imm offset) s = (if a.toInt ≤ b.toInt then taken else notTaken)

/-- With the registers read holding values, each of the eleven 64-bit register conditional jumps completes: pc becomes pc
+ 1 plus the signed offset if the condition holds between the 64-bit operands, else pc + 1; nothing else changes.
jgt, jge, jlt, jle compare as unsigned, jsgt, jsge, jslt, jsle as signed numbers; jset asks for a common bit. -/
def Obligations.Jump64RegisterBranches : Prop :=
  ∀ (s : State) (dst src : Reg) (offset : BitVec 16) (a b : Word), s.reg dst = some a → s.reg src = some b →
    let taken : Result := .next { s with pc := s.pc + 1 + offset.toInt }
    let notTaken : Result := .next { s with pc := s.pc + 1 }
    exec (.jeq64Reg dst src offset) s = (if a = b then taken else notTaken) ∧
    exec (.jgt64Reg dst src offset) s = (if a.toNat > b.toNat then taken else notTaken) ∧
    exec (.jge64Reg dst src offset) s = (if a.toNat ≥ b.toNat then taken else notTaken) ∧
    exec (.jset64Reg dst src offset) s = (if a &&& b ≠ 0 then taken else notTaken) ∧
    exec (.jne64Reg dst src offset) s = (if a ≠ b then taken else notTaken) ∧
    exec (.jsgt64Reg dst src offset) s = (if a.toInt > b.toInt then taken else notTaken) ∧
    exec (.jsge64Reg dst src offset) s = (if a.toInt ≥ b.toInt then taken else notTaken) ∧
    exec (.jlt64Reg dst src offset) s = (if a.toNat < b.toNat then taken else notTaken) ∧
    exec (.jle64Reg dst src offset) s = (if a.toNat ≤ b.toNat then taken else notTaken) ∧
    exec (.jslt64Reg dst src offset) s = (if a.toInt < b.toInt then taken else notTaken) ∧
    exec (.jsle64Reg dst src offset) s = (if a.toInt ≤ b.toInt then taken else notTaken)

/-- With the registers read holding values, each of the eleven 32-bit immediate conditional jumps completes: pc becomes
pc + 1 plus the signed offset if the condition holds between the low halves, else pc + 1; nothing else changes. jgt,
jge, jlt, jle compare as unsigned, jsgt, jsge, jslt, jsle as signed numbers; jset asks for a common bit. -/
def Obligations.Jump32ImmediateBranches : Prop :=
  ∀ (s : State) (dst : Reg) (imm : Word32) (offset : BitVec 16) (x : Word), s.reg dst = some x →
    let a : Word32 := x.setWidth 32
    let b : Word32 := imm
    let taken : Result := .next { s with pc := s.pc + 1 + offset.toInt }
    let notTaken : Result := .next { s with pc := s.pc + 1 }
    exec (.jeq32Imm dst imm offset) s = (if a = b then taken else notTaken) ∧
    exec (.jgt32Imm dst imm offset) s = (if a.toNat > b.toNat then taken else notTaken) ∧
    exec (.jge32Imm dst imm offset) s = (if a.toNat ≥ b.toNat then taken else notTaken) ∧
    exec (.jset32Imm dst imm offset) s = (if a &&& b ≠ 0 then taken else notTaken) ∧
    exec (.jne32Imm dst imm offset) s = (if a ≠ b then taken else notTaken) ∧
    exec (.jsgt32Imm dst imm offset) s = (if a.toInt > b.toInt then taken else notTaken) ∧
    exec (.jsge32Imm dst imm offset) s = (if a.toInt ≥ b.toInt then taken else notTaken) ∧
    exec (.jlt32Imm dst imm offset) s = (if a.toNat < b.toNat then taken else notTaken) ∧
    exec (.jle32Imm dst imm offset) s = (if a.toNat ≤ b.toNat then taken else notTaken) ∧
    exec (.jslt32Imm dst imm offset) s = (if a.toInt < b.toInt then taken else notTaken) ∧
    exec (.jsle32Imm dst imm offset) s = (if a.toInt ≤ b.toInt then taken else notTaken)

/-- With the registers read holding values, each of the eleven 32-bit register conditional jumps completes: pc becomes pc
+ 1 plus the signed offset if the condition holds between the low halves, else pc + 1; nothing else changes. jgt,
jge, jlt, jle compare as unsigned, jsgt, jsge, jslt, jsle as signed numbers; jset asks for a common bit. -/
def Obligations.Jump32RegisterBranches : Prop :=
  ∀ (s : State) (dst src : Reg) (offset : BitVec 16) (x y : Word), s.reg dst = some x → s.reg src = some y →
    let a : Word32 := x.setWidth 32
    let b : Word32 := y.setWidth 32
    let taken : Result := .next { s with pc := s.pc + 1 + offset.toInt }
    let notTaken : Result := .next { s with pc := s.pc + 1 }
    exec (.jeq32Reg dst src offset) s = (if a = b then taken else notTaken) ∧
    exec (.jgt32Reg dst src offset) s = (if a.toNat > b.toNat then taken else notTaken) ∧
    exec (.jge32Reg dst src offset) s = (if a.toNat ≥ b.toNat then taken else notTaken) ∧
    exec (.jset32Reg dst src offset) s = (if a &&& b ≠ 0 then taken else notTaken) ∧
    exec (.jne32Reg dst src offset) s = (if a ≠ b then taken else notTaken) ∧
    exec (.jsgt32Reg dst src offset) s = (if a.toInt > b.toInt then taken else notTaken) ∧
    exec (.jsge32Reg dst src offset) s = (if a.toInt ≥ b.toInt then taken else notTaken) ∧
    exec (.jlt32Reg dst src offset) s = (if a.toNat < b.toNat then taken else notTaken) ∧
    exec (.jle32Reg dst src offset) s = (if a.toNat ≤ b.toNat then taken else notTaken) ∧
    exec (.jslt32Reg dst src offset) s = (if a.toInt < b.toInt then taken else notTaken) ∧
    exec (.jsle32Reg dst src offset) s = (if a.toInt ≤ b.toInt then taken else notTaken)

/-- For dst other than register 10, a base register holding a value, an address aligned where STRICT_ALIGN asks for it,
and n bytes of one readable region: each of ldx_b, ldx_h, ldx_w, ldx_dw writes a value of 8n bits each of whose bytes
is the byte of memory that the byte order places there, for every byte with a sure value (a byte without one is
free); ldxsx_b, ldxsx_h, ldxsx_w write that value sign-extended. pc moves one further; nothing else changes but the
counter of draws. The counter of draws is the model's choice (notes/assumptions/5.md). -/
def Obligations.LoadsCompleteWithBytesRead : Prop :=
  ∀ (s : State) (dst src : Reg) (offset : BitVec 16) (base : Word), dst ≠ .r10 → s.reg src = some base →
    let a : Nat := (base + offset.signExtend 64).toNat
    let completes : Instr → Nat → (Word → Word) → Prop := fun i n extend =>
      (s.params.strictAlign = true → a % n = 0) → s.admitted .read a n →
      ∃ v, s.reads a n v ∧
        exec i s = .next { s with
          regs := s.regs.put dst (some (extend v)), pc := s.pc + 1, draws := s.draws + n }
    completes (.ldxW dst src offset) 4 (fun v => v) ∧
    completes (.ldxH dst src offset) 2 (fun v => v) ∧
    completes (.ldxB dst src offset) 1 (fun v => v) ∧
    completes (.ldxDw dst src offset) 8 (fun v => v) ∧
    completes (.ldxsxW dst src offset) 4 (fun v => (v.setWidth 32).signExtend 64) ∧
    completes (.ldxsxH dst src offset) 2 (fun v => (v.setWidth 16).signExtend 64) ∧
    completes (.ldxsxB dst src offset) 1 (fun v => (v.setWidth 8).signExtend 64)

/-- For a base register holding a value, an address aligned where STRICT_ALIGN asks for it, and n bytes of one writable
region: each of st_b, st_h, st_w stores the low n bytes of the immediate and st_dw the sign-extended immediate; each
of stx_b, stx_h, stx_w, stx_dw with a source register holding a value stores its low n bytes. The bytes stand in the
byte order of the launch, every byte outside them reads as before, pc moves one further, and nothing else changes.
The memory compared is what the instruction itself reads and leaves, which is the model's choice: what other agents
may write to shared bytes (R97) is added by step (notes/assumptions/6.md). -/
def Obligations.StoresCompleteWithBytesWritten : Prop :=
  ∀ (s : State) (dst src : Reg) (offset : BitVec 16) (imm : Word32) (base y : Word), s.reg dst = some base →
    let a : Nat := (base + offset.signExtend 64).toNat
    let completes : Instr → Nat → Word → Prop := fun i n v =>
      (s.params.strictAlign = true → a % n = 0) → s.admitted .write a n →
      ∃ t, exec i s = .next t ∧ s.stored t a n v ∧ t = { s with mem := t.mem, pc := s.pc + 1 }
    completes (.stW dst offset imm) 4 (imm.setWidth 64) ∧
    completes (.stH dst offset imm) 2 (imm.setWidth 64) ∧
    completes (.stB dst offset imm) 1 (imm.setWidth 64) ∧
    completes (.stDw dst offset imm) 8 (imm.signExtend 64) ∧
    (s.reg src = some y →
      completes (.stxW dst src offset) 4 y ∧
      completes (.stxH dst src offset) 2 y ∧
      completes (.stxB dst src offset) 1 y ∧
      completes (.stxDw dst src offset) 8 y)

/-- For a base register and an operand register holding values, a naturally aligned address (whatever STRICT_ALIGN is),
and 8 bytes of one region that is readable and writable: there is an old value, equal to memory wherever the bytes
have sure values, such that the operation completes with its new value stored and every other byte unchanged. add,
or, and, xor change no register; their fetching forms and xchg write the old value to src (other than register 10);
cmpxchg stores the operand if the old value equals register 0 and the old value back if not, and writes the old value
to register 0: it alone needs a value in register 0. pc moves one further; nothing else changes but the counter of
draws. The counter of draws is the model's choice (notes/assumptions/5.md). The memory compared is what the
instruction itself reads and leaves, which is the model's choice: what other agents may write to shared bytes (R97)
is added by step (notes/assumptions/6.md). -/
def Obligations.Atomic64Complete : Prop :=
  ∀ (s : State) (dst src : Reg) (offset : BitVec 16) (base y : Word),
    s.reg dst = some base → s.reg src = some y →
    let a : Nat := (base + offset.signExtend 64).toNat
    let completes : Instr → (Word → Word) → (Word → RegFile) → Prop := fun i f regs =>
      a % 8 = 0 → s.admitted .readWrite a 8 →
      ∃ old t, s.reads a 8 old ∧ exec i s = .next t ∧ s.stored t a 8 (f old) ∧
        t = { s with regs := regs old, mem := t.mem, pc := s.pc + 1, draws := s.draws + 8 }
    completes (.atomicAdd64 dst src offset) (fun o => o + y) (fun _ => s.regs) ∧
    completes (.atomicOr64 dst src offset) (fun o => o ||| y) (fun _ => s.regs) ∧
    completes (.atomicAnd64 dst src offset) (fun o => o &&& y) (fun _ => s.regs) ∧
    completes (.atomicXor64 dst src offset) (fun o => o ^^^ y) (fun _ => s.regs) ∧
    (∀ c : Word, s.reg .r0 = some c →
      completes (.atomicCmpxchg64 dst src offset) (fun o => if o = c then y else o) (fun old => s.regs.put .r0 (some old))) ∧
    (src ≠ .r10 →
      completes (.atomicFetchAdd64 dst src offset) (fun o => o + y) (fun old => s.regs.put src (some old)) ∧
      completes (.atomicFetchOr64 dst src offset) (fun o => o ||| y) (fun old => s.regs.put src (some old)) ∧
      completes (.atomicFetchAnd64 dst src offset) (fun o => o &&& y) (fun old => s.regs.put src (some old)) ∧
      completes (.atomicFetchXor64 dst src offset) (fun o => o ^^^ y) (fun old => s.regs.put src (some old)) ∧
      completes (.atomicXchg64 dst src offset) (fun _ => y) (fun old => s.regs.put src (some old)))

/-- For a base register and an operand register holding values, a naturally aligned address (whatever STRICT_ALIGN is),
and 4 bytes of one region that is readable and writable: there is an old value, equal to memory wherever the bytes
have sure values, such that the operation completes with its new value stored and every other byte unchanged. add,
or, and, xor change no register; their fetching forms and xchg write the old value to src (other than register 10);
cmpxchg stores the operand if the old value equals register 0's low half and the old value back if not, and writes
the old value to register 0: it alone needs a value in register 0. Operands are low halves and old values are zero-
extended. pc moves one further; nothing else changes but the counter of draws. The counter of draws is the model's
choice (notes/assumptions/5.md). The memory compared is what the instruction itself reads and leaves, which is the
model's choice: what other agents may write to shared bytes (R97) is added by step (notes/assumptions/6.md). -/
def Obligations.Atomic32Complete : Prop :=
  ∀ (s : State) (dst src : Reg) (offset : BitVec 16) (base z : Word),
    s.reg dst = some base → s.reg src = some z →
    let a : Nat := (base + offset.signExtend 64).toNat
    let y : Word32 := z.setWidth 32
    let completes : Instr → (Word32 → Word32) → (Word → RegFile) → Prop := fun i f regs =>
      a % 4 = 0 → s.admitted .readWrite a 4 →
      ∃ old t, s.reads a 4 old ∧ exec i s = .next t ∧ s.stored t a 4 ((f (old.setWidth 32)).setWidth 64) ∧
        t = { s with regs := regs old, mem := t.mem, pc := s.pc + 1, draws := s.draws + 4 }
    completes (.atomicAdd32 dst src offset) (fun o => o + y) (fun _ => s.regs) ∧
    completes (.atomicOr32 dst src offset) (fun o => o ||| y) (fun _ => s.regs) ∧
    completes (.atomicAnd32 dst src offset) (fun o => o &&& y) (fun _ => s.regs) ∧
    completes (.atomicXor32 dst src offset) (fun o => o ^^^ y) (fun _ => s.regs) ∧
    (∀ d : Word, s.reg .r0 = some d →
      let c : Word32 := d.setWidth 32
      completes (.atomicCmpxchg32 dst src offset) (fun o => if o = c then y else o) (fun old => s.regs.put .r0 (some old))) ∧
    (src ≠ .r10 →
      completes (.atomicFetchAdd32 dst src offset) (fun o => o + y) (fun old => s.regs.put src (some old)) ∧
      completes (.atomicFetchOr32 dst src offset) (fun o => o ||| y) (fun old => s.regs.put src (some old)) ∧
      completes (.atomicFetchAnd32 dst src offset) (fun o => o &&& y) (fun old => s.regs.put src (some old)) ∧
      completes (.atomicFetchXor32 dst src offset) (fun o => o ^^^ y) (fun old => s.regs.put src (some old)) ∧
      completes (.atomicXchg32 dst src offset) (fun _ => y) (fun old => s.regs.put src (some old)))

/-- For each instruction that accesses data memory, well-formed and with all the registers it reads holding values: if
alignment is asked for and the address is not a multiple of the width it raises MisalignedAccess with the address and
width; else if no one region holds all bytes with the permission it raises MemFault with the address, the width and
the kind of access; else it completes. -/
def Obligations.MemoryInstructionOutcomes : Prop :=
  ∀ (i : Instr) (x : Access) (s : State) (addr : Word), i.access = some x → i.wf = true →
    (∀ r ∈ i.reads, (s.reg r).isSome = true) → s.accessAddress x = some addr →
    (¬ s.alignedFor x addr.toNat → exec i s = .fault (.misalignedAccess addr x.bytes)) ∧
    (s.alignedFor x addr.toNat → ¬ s.admitted x.kind addr.toNat x.bytes →
      exec i s = .fault (.memFault addr x.bytes x.kind)) ∧
    (s.alignedFor x addr.toNat → s.admitted x.kind addr.toNat x.bytes → ∃ t, exec i s = .next t)

/-- If stx of n bytes completes, then in the state after it a load of n bytes from the same base and displacement, where
that region is readable and no other agent may change the bytes, completes with the low 8n bits of the register
stored, for n = 1, 2, 4, 8 and any destination other than register 10. -/
def Obligations.StoreThenLoadReturnsValue : Prop :=
  ∀ (s t : State) (dst src target : Reg) (offset : BitVec 16) (base y : Word), s.reg dst = some base →
    s.reg src = some y → target ≠ .r10 →
    let a : Nat := (base + offset.signExtend 64).toNat
    let holds : Instr → Instr → Nat → Prop := fun st ld n =>
      exec st s = .next t → s.admitted .read a n → (∀ k, k < n → s.params.interferes (a + k) = false) →
      ∃ u, exec ld t = .next u ∧ u.reg target = some (BitVec.ofNat 64 (y.toNat % 2 ^ (8 * n)))
    holds (.stxB dst src offset) (.ldxB target dst offset) 1 ∧
    holds (.stxH dst src offset) (.ldxH target dst offset) 2 ∧
    holds (.stxW dst src offset) (.ldxW target dst offset) 4 ∧
    holds (.stxDw dst src offset) (.ldxDw target dst offset) 8

/-- After a completed 8-byte store of 0x1122334455667788 at a, in memory that no other agent may change: on a little-
endian platform reads of 1, 2 and 4 bytes at a and of 4 bytes at a + 4 give 0x88, 0x7788, 0x55667788 and 0x11223344;
on a big-endian platform they give 0x11, 0x1122, 0x11223344 and 0x55667788. -/
def Obligations.MixedWidthViewOfMemory : Prop :=
  ∀ (s t : State) (dst src : Reg) (offset : BitVec 16) (base : Word), s.reg dst = some base →
    s.reg src = some 0x1122334455667788#64 → exec (.stxDw dst src offset) s = .next t →
    let a : Nat := (base + offset.signExtend 64).toNat
    (∀ k, k < 8 → s.params.interferes (a + k) = false) →
    (s.params.endian = .little →
      t.load a 1 = 0x88#64 ∧ t.load a 2 = 0x7788#64 ∧ t.load a 4 = 0x55667788#64 ∧ t.load (a + 4) 4 = 0x11223344#64) ∧
    (s.params.endian = .big →
      t.load a 1 = 0x11#64 ∧ t.load a 2 = 0x1122#64 ∧ t.load a 4 = 0x11223344#64 ∧ t.load (a + 4) 4 = 0x55667788#64)

/-- If the number of active functions is not MAX_CALL_DEPTH and register 10 holds a value, call_local completes: the call
stack gets a frame with return slot pc + 1, the values of registers 6 to 9 as they are, and register 10; registers 0
and 6 to 9 hold no value, 1 to 5 are unchanged, register 10 is lower by STACK_SIZE modulo 2^64; pc becomes pc + 1
plus the signed immediate; nothing else changes. -/
def Obligations.LocalCallPushesFrame : Prop :=
  ∀ (s : State) (imm : Word32) (fp : Word), 1 + s.frames.length ≠ s.params.maxCallDepth → s.reg .r10 = some fp →
    exec (.callLocal imm) s = .next { s with
      frames := ⟨s.pc + 1, s.regs.r6, s.regs.r7, s.regs.r8, s.regs.r9, fp⟩ :: s.frames
      regs := ⟨none, s.regs.r1, s.regs.r2, s.regs.r3, s.regs.r4, s.regs.r5, none, none, none, none,
        some (fp - BitVec.ofNat 64 s.params.stackSize)⟩
      pc := s.pc + 1 + imm.toInt }

/-- If one plus the number of frames equals MAX_CALL_DEPTH, call_local raises CallDepthExceeded with pc recorded,
whatever register 10 holds. -/
def Obligations.LocalCallAtDepthBoundFaults : Prop :=
  ∀ (s : State) (imm : Word32), 1 + s.frames.length = s.params.maxCallDepth →
    exec (.callLocal imm) s = .fault (.callDepthExceeded s.pc)

/-- With register 0 holding v: if the call stack is empty, exit completes with status exited(v), everything else
unchanged, pc among it; if not, the innermost frame is popped, registers 6 to 9 and 10 are those of the frame, 1 to 5
hold no value, register 0 keeps v, pc is the return slot, and nothing else changes. -/
def Obligations.ExitEndsOrReturns : Prop :=
  ∀ (s : State) (v : Word), s.reg .r0 = some v →
    (s.frames = [] → exec .exit s = .next { s with status := .exited v }) ∧
    ∀ fr rest, s.frames = fr :: rest →
      exec .exit s = .next { s with
        frames := rest
        regs := ⟨some v, none, none, none, none, none, fr.x6, fr.x7, fr.x8, fr.x9, some fr.fp⟩
        pc := fr.ret }

/-- If a program-local call completes in s, and the callee, from any later state with the call stack the call left,
returns by exit, then registers 6 to 10 are those of s at the call (no value among them), register 0 is the callee's,
registers 1 to 5 hold no value, the call stack is that of s, and pc is the slot after the call. -/
def Obligations.CallerRegistersSurviveCall : Prop :=
  ∀ (s t u v : State) (imm : Word32), exec (.callLocal imm) s = .next t → u.frames = t.frames →
    exec .exit u = .next v →
    (∀ r ∈ [Reg.r6, .r7, .r8, .r9, .r10], v.reg r = s.reg r) ∧ v.reg .r0 = u.reg .r0 ∧
    (∀ r ∈ [Reg.r1, .r2, .r3, .r4, .r5], v.reg r = none) ∧ v.frames = s.frames ∧ v.pc = s.pc + 1 ∧
    v.status = u.status

/-- For either kind of helper call: if HELPERS has the key, the argument registers that the reply to this call reads hold
values, its outcome is a result, and every byte it writes is in a writable region, the call completes: the bytes are
written, register 0 holds the result or no value, registers 1 to 5 hold no value, pc moves one further, the count of
helper calls goes up, and nothing else changes. The reply is that of a case of the relation which the call meets,
where it meets one. That a relation is a list of cases, that a reply has reads, then bytes written one by one, and
the count of calls are the model's choice (notes/assumptions/7.md); the bytes are those after the call and before the
other agents' turn (notes/assumptions/6.md). -/
def Obligations.HelperCallsComplete : Prop :=
  ∀ (s : State) (kind : HelperKind) (imm : Word32) (h : Helper) (r0 : Option Word) (writes : List (Nat × Byte)),
    s.params.helper kind imm = some h →
    ((∀ a ∈ (s.helperReply h).reads, (s.reg a.reg).isSome = true) →
      (s.helperReply h).outcome = .result r0 writes → (∀ c ∈ writes, s.admitted .write c.1 1) →
      exec (match kind with
        | .byAddress => .callHelper imm
        | .byBtfId => .callBtf imm) s = .next { s with
          regs := ⟨r0, none, none, none, none, none, s.regs.r6, s.regs.r7, s.regs.r8, s.regs.r9, s.regs.r10⟩
          mem := s.mem.writeCells writes
          calls := s.calls + 1
          pc := s.pc + 1 }) ∧
    ∀ c ∈ h.cases, s.meets c = true → ∃ d ∈ h.cases, s.meets d = true ∧ s.helperReply h = d.reply

/-- For either kind of helper call: with the key absent it raises UnknownHelper; with the key present and an argument
register that the reply to this call reads holding no value it raises UnwrittenRegister for the first such register
in its order; with those held and a failing outcome it raises the fault the outcome names; with a result that writes
a byte in no writable region it raises MemFault for the first such byte. The order is that of R555; that a reply has
a list of reads and then one outcome, and the one-byte MemFault, are the model's choice (notes/assumptions/7.md), and
so is the type of the info of HelperFault (notes/assumptions/18.md). -/
def Obligations.HelperCallFaults : Prop :=
  ∀ (s : State) (kind : HelperKind) (imm : Word32),
    let call : Instr := match kind with
      | .byAddress => .callHelper imm
      | .byBtfId => .callBtf imm
    (s.params.helper kind imm = none → exec call s = .fault (.unknownHelper kind imm)) ∧
    ∀ h, s.params.helper kind imm = some h →
      (∀ a, (s.helperReply h).reads.find? (fun a => (s.reg a.reg).isNone) = some a →
        exec call s = .fault (.unwrittenRegister a.reg)) ∧
      ((∀ a ∈ (s.helperReply h).reads, (s.reg a.reg).isSome = true) →
        (∀ info, (s.helperReply h).outcome = .failed (.helperFault info) →
          exec call s = .fault (.helperFault info)) ∧
        (∀ addr n k, (s.helperReply h).outcome = .failed (.memFault addr n k) →
          exec call s = .fault (.memFault addr n k)) ∧
        (∀ addr n, (s.helperReply h).outcome = .failed (.misaligned addr n) →
          exec call s = .fault (.misalignedAccess addr n)) ∧
        ∀ r0 before c after, (s.helperReply h).outcome = .result r0 (before ++ c :: after) →
          (∀ b ∈ before, s.admitted .write b.1 1) → ¬ s.admitted .write c.1 1 →
          exec call s = .fault (.memFault (BitVec.ofNat 64 c.1) 1 .write))

/-- For either kind of helper call and every state: the call raises UnknownHelper with its kind and imm if and only if no
entry of HELPERS has that kind and that imm. -/
def Obligations.UnknownHelperExactlyForAbsentKeys : Prop :=
  ∀ (s : State) (imm : Word32),
    (exec (.callHelper imm) s = .fault (.unknownHelper .byAddress imm) ↔
      ∀ h ∈ s.params.helpers, ¬ (h.kind = .byAddress ∧ h.id = imm)) ∧
    (exec (.callBtf imm) s = .fault (.unknownHelper .byBtfId imm) ↔
      ∀ h ∈ s.params.helpers, ¬ (h.kind = .byBtfId ∧ h.id = imm))

/-- For dst other than register 10, ld_imm64 completes: dst holds the value whose bits 63:32 are next_imm and whose bits
31:0 are imm, not sign-extended; pc moves two slots; nothing else changes. -/
def Obligations.WideConstantIsAssembled : Prop :=
  ∀ (s : State) (dst : Reg) (imm nextImm : Word32), dst ≠ .r10 →
    ∃ v : Word, v.toNat = nextImm.toNat * 2 ^ 32 + imm.toNat ∧
      exec (.ldImm64 dst imm nextImm) s = .next { s with regs := s.regs.put dst (some v), pc := s.pc + 2 }

/-- For dst other than register 10, where the platform function has a value v at its argument: subtypes 1, 3, 5 complete
with map_by_fd, var_addr, map_by_idx of imm in dst; subtype 4 with code_addr of the slot index pc + 1 plus the signed
imm; subtypes 2 and 6 with map_val of the map's address plus the zero-extended next_imm modulo 2^64; each moves pc
two slots and changes nothing else. -/
def Obligations.PlatformAddressLoads : Prop :=
  ∀ (s : State) (dst : Reg) (imm nextImm : Word32) (v m : Word), dst ≠ .r10 →
    let done : Word → Result := fun v => .next { s with regs := s.regs.put dst (some v), pc := s.pc + 2 }
    (s.params.mapByFd.lookup imm = some v → exec (.ldMapFd dst imm) s = done v) ∧
    (s.params.mapByFd.lookup imm = some m → s.params.mapVal.lookup m = some v →
      exec (.ldMapFdVal dst imm nextImm) s = done (v + nextImm.setWidth 64)) ∧
    (s.params.varAddr.lookup imm = some v → exec (.ldVarAddr dst imm) s = done v) ∧
    (s.params.codeAddr.lookup (s.pc + 1 + imm.toInt) = some v → exec (.ldCodeAddr dst imm) s = done v) ∧
    (s.params.mapByIdx.lookup imm = some v → exec (.ldMapIdx dst imm) s = done v) ∧
    (s.params.mapByIdx.lookup imm = some m → s.params.mapVal.lookup m = some v →
      exec (.ldMapIdxVal dst imm nextImm) s = done (v + nextImm.setWidth 64))

/-- For dst other than register 10: each of the subtypes 1 to 6 raises PlatformUndefined with its subtype and imm if and
only if its platform function has no value at its argument: map_by_fd, var_addr, map_by_idx of imm, code_addr of pc +
1 plus the signed imm, and for subtypes 2 and 6 the map's address or the map's value. -/
def Obligations.PlatformUndefinedExactlyWhereUndefined : Prop :=
  ∀ (s : State) (dst : Reg) (imm nextImm : Word32), dst ≠ .r10 →
    let undefinedFor : Instr → BitVec 4 → Option Word → Prop := fun i subtype value =>
      exec i s = .fault (.platformUndefined subtype imm) ↔ value = none
    undefinedFor (.ldMapFd dst imm) 1 (s.params.mapByFd.lookup imm) ∧
    undefinedFor (.ldMapFdVal dst imm nextImm) 2
      ((s.params.mapByFd.lookup imm).bind fun m => s.params.mapVal.lookup m) ∧
    undefinedFor (.ldVarAddr dst imm) 3 (s.params.varAddr.lookup imm) ∧
    undefinedFor (.ldCodeAddr dst imm) 4 (s.params.codeAddr.lookup (s.pc + 1 + imm.toInt)) ∧
    undefinedFor (.ldMapIdx dst imm) 5 (s.params.mapByIdx.lookup imm) ∧
    undefinedFor (.ldMapIdxVal dst imm nextImm) 6
      ((s.params.mapByIdx.lookup imm).bind fun m => s.params.mapVal.lookup m)

/-- For every well-formed instruction, if among the registers it reads, in order, r is the first that holds no value, the
instruction raises UnwrittenRegister(r), whatever its operands would otherwise give; only the depth check of a
program-local call comes before it. -/
def Obligations.UnwrittenRegisterIsFirstFault : Prop :=
  ∀ (i : Instr) (s : State) (r : Reg), i.wf = true → i.reads.find? (fun q => (s.reg q).isNone) = some r →
    (∀ imm, i = .callLocal imm → 1 + s.frames.length ≠ s.params.maxCallDepth) →
    exec i s = .fault (.unwrittenRegister r)

/-- For every instruction that completes and every register that is not among those the instruction may change (its
destination; src of a fetching atomic; register 0 of cmpxchg; 0 to 5 of a helper call; 0 and 6 to 10 of a program-
local call; 1 to 10 of exit), the content of the register, or its having no value, is unchanged. -/
def Obligations.RegisterFrame : Prop :=
  ∀ (i : Instr) (s t : State) (r : Reg), exec i s = .next t → r ∉ i.writes → t.reg r = s.reg r

/-- For every instruction other than a helper call that completes: if it accesses n bytes for writing at its effective
address, every byte outside those n reads as before; if it stores nothing, every byte reads as before. A byte that
other agents may change reads as no sure value, before and after, which is the model's choice
(notes/assumptions/6.md). -/
def Obligations.MemoryFrame : Prop :=
  ∀ (i : Instr) (s t : State), exec i s = .next t → (∀ imm, i ≠ .callHelper imm ∧ i ≠ .callBtf imm) →
    ∀ a : Nat,
      (∀ x addr, i.access = some x → x.kind ≠ .read → s.accessAddress x = some addr →
        a < addr.toNat ∨ addr.toNat + x.bytes ≤ a) →
      t.byteAt a = s.byteAt a

/-- For every instruction that completes: the call stack is unchanged unless it is a program-local call or exit; the
status is unchanged unless it is exit; pc moves by the number of slots of the instruction unless it is a jump, a
program-local call or exit; the parameters are unchanged always. -/
def Obligations.ControlStateFrame : Prop :=
  ∀ (i : Instr) (s t : State), exec i s = .next t →
    ((∀ imm, i ≠ .callLocal imm) → i ≠ .exit → t.frames = s.frames) ∧
    (i ≠ .exit → t.status = s.status) ∧
    ((∀ imm, i ≠ .callLocal imm) → i ≠ .exit →
      (i.fields.opcode.extractLsb' 0 3 = 6#3 ∨ i.fields.opcode.extractLsb' 0 3 = 5#3 →
        i.fields.opcode = 0x85#8) → t.pc = s.pc + i.slots) ∧
    t.params = s.params

/-- After every completed step each slot of PROGRAM, read at any index, is what it was, and so are the byte order and
every other parameter: self-modifying code and switching of the byte order are impossible. -/
def Obligations.ProgramTextIsNeverWritten : Prop :=
  ∀ s t : State, step s = .next t → t.params = s.params ∧ ∀ p, t.slotAt p = s.slotAt p

/-- After every completed step, each address that is not a byte of some writable region, and that other agents may not
change (R97), holds what it held before, whatever instruction ran and whatever a helper answered. Other agents may
change any byte of a shared region, an unwritable one too; how the model gives them their turn is its choice
(notes/assumptions/6.md). -/
def Obligations.UnwritableMemoryNeverChanges : Prop :=
  ∀ s t : State, step s = .next t → ∀ a : Nat, ¬ s.admitted .write a 1 →
    s.params.interferes a = false → t.mem.read a = s.mem.read a

/-- The reset state's memory is in canonical form, every listed byte lies in a region, the active functions are within
MAX_CALL_DEPTH, and the frame pointers are linked. The register values and parameters of the reset state are the
model's choice (notes/assumptions/2.md, notes/assumptions/3.md). -/
def Obligations.InvariantHoldsAtReset : Prop :=
  State.reset.Inv

/-- For any parameters with room for the entry function, any entry registers, and any memory in canonical form whose
bytes lie in regions, the launched state meets the invariant. -/
def Obligations.InvariantHoldsAtLaunch : Prop :=
  ∀ (p : Params) (entryRegs : RegFile) (m : Memory), 1 ≤ p.maxCallDepth → m.wf →
    (∀ c ∈ m.cells, ∃ r ∈ p.regions, r.base.toNat ≤ c.1 ∧ c.1 < r.base.toNat + r.length) →
    (State.launch p entryRegs m).Inv

/-- From every state that meets the invariant, a completed step gives a state that meets it: memory stays in canonical
form and inside the regions, the number of active functions stays within MAX_CALL_DEPTH, and register 10 of each
active function stays its caller's minus STACK_SIZE. The canonical form of memory is the model's choice
(notes/assumptions/5.md). Other agents' turns are part of the step (R97, notes/assumptions/6.md). -/
def Obligations.InvariantKeptByEveryStep : Prop :=
  ∀ s t : State, s.Inv → step s = .next t → t.Inv

/-- If a step completes with a different content of register 10, the instruction that ran was a program-local call or
exit. -/
def Obligations.FramePointerIsReadOnly : Prop :=
  ∀ (s t : State), step s = .next t → t.reg .r10 ≠ s.reg .r10 →
    ∃ i, fetch s = .ok i ∧ (i = .exit ∨ ∃ imm, i = .callLocal imm)

/-- After x[r] <- v, register r holds v and every other register holds what it held, or no value if it held none. -/
def Obligations.RegisterWriteReadsBack : Prop :=
  ∀ (s : State) (r q : Reg) (v : Word), (s.setReg r v).reg q = if q = r then some v else s.reg q

end
end

