-- ==== Sys2Proof/Laws/State.lean ====
section
/-! SUPPORT. One lemma per field of State per update, so that no proof unfolds a record update. -/

namespace Sys2Proof.Machine

@[simp] theorem State.setReg_regs (s : State) (r : Reg) (v : Word) : (s.setReg r v).regs = s.regs.put r (some v) := rfl
@[simp] theorem State.setReg_pc (s : State) (r : Reg) (v : Word) : (s.setReg r v).pc = s.pc := rfl
@[simp] theorem State.setReg_frames (s : State) (r : Reg) (v : Word) : (s.setReg r v).frames = s.frames := rfl
@[simp] theorem State.setReg_mem (s : State) (r : Reg) (v : Word) : (s.setReg r v).mem = s.mem := rfl
@[simp] theorem State.setReg_status (s : State) (r : Reg) (v : Word) : (s.setReg r v).status = s.status := rfl
@[simp] theorem State.setReg_params (s : State) (r : Reg) (v : Word) : (s.setReg r v).params = s.params := rfl
@[simp] theorem State.setReg_draws (s : State) (r : Reg) (v : Word) : (s.setReg r v).draws = s.draws := rfl
@[simp] theorem State.setReg_calls (s : State) (r : Reg) (v : Word) : (s.setReg r v).calls = s.calls := rfl
@[simp] theorem State.setReg_turns (s : State) (r : Reg) (v : Word) : (s.setReg r v).turns = s.turns := rfl

@[simp] theorem State.skip_regs (s : State) (n : Int) : (s.skip n).regs = s.regs := rfl
@[simp] theorem State.skip_pc (s : State) (n : Int) : (s.skip n).pc = s.pc + n := rfl
@[simp] theorem State.skip_frames (s : State) (n : Int) : (s.skip n).frames = s.frames := rfl
@[simp] theorem State.skip_mem (s : State) (n : Int) : (s.skip n).mem = s.mem := rfl
@[simp] theorem State.skip_status (s : State) (n : Int) : (s.skip n).status = s.status := rfl
@[simp] theorem State.skip_params (s : State) (n : Int) : (s.skip n).params = s.params := rfl
@[simp] theorem State.skip_draws (s : State) (n : Int) : (s.skip n).draws = s.draws := rfl
@[simp] theorem State.skip_calls (s : State) (n : Int) : (s.skip n).calls = s.calls := rfl
@[simp] theorem State.skip_turns (s : State) (n : Int) : (s.skip n).turns = s.turns := rfl

@[simp] theorem State.drew_regs (s : State) (n : Nat) : (s.drew n).regs = s.regs := rfl
@[simp] theorem State.drew_pc (s : State) (n : Nat) : (s.drew n).pc = s.pc := rfl
@[simp] theorem State.drew_frames (s : State) (n : Nat) : (s.drew n).frames = s.frames := rfl
@[simp] theorem State.drew_mem (s : State) (n : Nat) : (s.drew n).mem = s.mem := rfl
@[simp] theorem State.drew_status (s : State) (n : Nat) : (s.drew n).status = s.status := rfl
@[simp] theorem State.drew_params (s : State) (n : Nat) : (s.drew n).params = s.params := rfl
@[simp] theorem State.drew_draws (s : State) (n : Nat) : (s.drew n).draws = s.draws + n := rfl
@[simp] theorem State.drew_calls (s : State) (n : Nat) : (s.drew n).calls = s.calls := rfl
@[simp] theorem State.drew_turns (s : State) (n : Nat) : (s.drew n).turns = s.turns := rfl

@[simp] theorem State.store_regs (s : State) (a n : Nat) (v : Word) : (s.store a n v).regs = s.regs := rfl
@[simp] theorem State.store_pc (s : State) (a n : Nat) (v : Word) : (s.store a n v).pc = s.pc := rfl
@[simp] theorem State.store_frames (s : State) (a n : Nat) (v : Word) : (s.store a n v).frames = s.frames := rfl
@[simp] theorem State.store_mem (s : State) (a n : Nat) (v : Word) : (s.store a n v).mem = s.mem.writeBytes a (disassemble s.params.endian n v) := rfl
@[simp] theorem State.store_status (s : State) (a n : Nat) (v : Word) : (s.store a n v).status = s.status := rfl
@[simp] theorem State.store_params (s : State) (a n : Nat) (v : Word) : (s.store a n v).params = s.params := rfl
@[simp] theorem State.store_draws (s : State) (a n : Nat) (v : Word) : (s.store a n v).draws = s.draws := rfl
@[simp] theorem State.store_calls (s : State) (a n : Nat) (v : Word) : (s.store a n v).calls = s.calls := rfl
@[simp] theorem State.store_turns (s : State) (a n : Nat) (v : Word) : (s.store a n v).turns = s.turns := rfl

@[simp] theorem State.recordFault_regs (s : State) (k : Fault) : (s.recordFault k).regs = s.regs := rfl
@[simp] theorem State.recordFault_pc (s : State) (k : Fault) : (s.recordFault k).pc = s.pc := rfl
@[simp] theorem State.recordFault_frames (s : State) (k : Fault) : (s.recordFault k).frames = s.frames := rfl
@[simp] theorem State.recordFault_mem (s : State) (k : Fault) : (s.recordFault k).mem = s.mem := rfl
@[simp] theorem State.recordFault_status (s : State) (k : Fault) : (s.recordFault k).status = .faulted k := rfl
@[simp] theorem State.recordFault_params (s : State) (k : Fault) : (s.recordFault k).params = s.params := rfl
@[simp] theorem State.recordFault_draws (s : State) (k : Fault) : (s.recordFault k).draws = s.draws := rfl
@[simp] theorem State.recordFault_calls (s : State) (k : Fault) : (s.recordFault k).calls = s.calls := rfl
@[simp] theorem State.recordFault_turns (s : State) (k : Fault) : (s.recordFault k).turns = s.turns := rfl

@[simp] theorem State.othersAct_regs (s : State) : s.othersAct.regs = s.regs := by
  unfold State.othersAct; split <;> rfl
@[simp] theorem State.othersAct_pc (s : State) : s.othersAct.pc = s.pc := by
  unfold State.othersAct; split <;> rfl
@[simp] theorem State.othersAct_frames (s : State) : s.othersAct.frames = s.frames := by
  unfold State.othersAct; split <;> rfl
@[simp] theorem State.othersAct_status (s : State) : s.othersAct.status = s.status := by
  unfold State.othersAct; split <;> rfl
@[simp] theorem State.othersAct_params (s : State) : s.othersAct.params = s.params := by
  unfold State.othersAct; split <;> rfl
@[simp] theorem State.othersAct_draws (s : State) : s.othersAct.draws = s.draws := by
  unfold State.othersAct; split <;> rfl
@[simp] theorem State.othersAct_calls (s : State) : s.othersAct.calls = s.calls := by
  unfold State.othersAct; split <;> rfl

@[simp] theorem State.launch_regs (p : Params) (e : RegFile) (m : Memory) : (State.launch p e m).regs = e := rfl
@[simp] theorem State.launch_pc (p : Params) (e : RegFile) (m : Memory) : (State.launch p e m).pc = 0 := rfl
@[simp] theorem State.launch_frames (p : Params) (e : RegFile) (m : Memory) : (State.launch p e m).frames = [] := rfl
@[simp] theorem State.launch_mem (p : Params) (e : RegFile) (m : Memory) : (State.launch p e m).mem = m := rfl
@[simp] theorem State.launch_status (p : Params) (e : RegFile) (m : Memory) : (State.launch p e m).status = .running := rfl
@[simp] theorem State.launch_params (p : Params) (e : RegFile) (m : Memory) : (State.launch p e m).params = p := rfl

end Sys2Proof.Machine
end

