-- ==== Sys2Proof/Laws/Memory.lean ====
section
/-! SUPPORT. The memory: a write is read back, leaves every other byte alone, and keeps the canonical form. -/

namespace Sys2Proof.Machine

theorem Memory.lookup_insert_same (cs : List Host.Cell) (a : Nat) (b : Byte) :
    Memory.lookup (Memory.insert cs a b) a = some b := by
  induction cs with
  | nil => simp [Memory.insert, Memory.lookup]
  | cons c cs ih =>
    simp only [Memory.insert]
    split
    · simp [Memory.lookup]
    · split
      · simp [Memory.lookup]
      · simp [Memory.lookup, *]

theorem Memory.lookup_insert_other (cs : List Host.Cell) {a x : Nat} (b : Byte) (h : x ≠ a) :
    Memory.lookup (Memory.insert cs a b) x = Memory.lookup cs x := by
  induction cs with
  | nil => simp [Memory.insert, Memory.lookup, h]
  | cons c cs ih =>
    simp only [Memory.insert]
    split
    · simp [Memory.lookup, h]
    · split
      · subst_vars; simp [Memory.lookup, h]
      · simp [Memory.lookup, ih]

@[simp] theorem Memory.read_write_same (m : Memory) (a : Nat) (b : Byte) : (m.write a b).read a = some b :=
  Memory.lookup_insert_same _ _ _

theorem Memory.read_write_other (m : Memory) {a x : Nat} (b : Byte) (h : x ≠ a) :
    (m.write a b).read x = m.read x :=
  Memory.lookup_insert_other _ _ h

theorem Memory.mem_insert {cs : List Host.Cell} {a : Nat} {b : Byte} {c : Host.Cell}
    (h : c ∈ Memory.insert cs a b) : c = (a, b) ∨ c ∈ cs := by
  induction cs with
  | nil => simpa [Memory.insert] using h
  | cons d ds ih =>
    simp only [Memory.insert] at h
    split at h
    · simpa using h
    · split at h
      · rcases List.mem_cons.mp h with h | h
        · exact .inl h
        · exact .inr (List.mem_cons_of_mem _ h)
      · rcases List.mem_cons.mp h with h | h
        · exact .inr (h ▸ List.mem_cons_self)
        · exact (ih h).imp id (List.mem_cons_of_mem _)

theorem Memory.insert_rising {cs : List Host.Cell} (h : cs.Pairwise fun p q => p.1 < q.1) (a : Nat) (b : Byte) :
    (Memory.insert cs a b).Pairwise fun p q => p.1 < q.1 := by
  induction cs with
  | nil => simp [Memory.insert]
  | cons c cs ih =>
    obtain ⟨hc, hcs⟩ := List.pairwise_cons.mp h
    simp only [Memory.insert]
    split
    · refine List.pairwise_cons.mpr ⟨fun d hd => ?_, h⟩
      rcases List.mem_cons.mp hd with rfl | hd
      · assumption
      · exact Nat.lt_trans ‹_› (hc d hd)
    · split
      · subst_vars; exact List.pairwise_cons.mpr ⟨hc, hcs⟩
      · refine List.pairwise_cons.mpr ⟨fun d hd => ?_, ih hcs⟩
        rcases Memory.mem_insert hd with rfl | hd
        · show c.1 < a
          omega
        · exact hc d hd

/-- A write below `2 ^ 64` keeps the canonical form. -/
theorem Memory.wf_write {m : Memory} (h : m.wf) {a : Nat} (ha : a < 2 ^ 64) (b : Byte) : (m.write a b).wf := by
  refine ⟨Memory.insert_rising h.1 a b, fun c hc => ?_⟩
  rcases Memory.mem_insert hc with rfl | hc
  · exact ha
  · exact h.2 c hc

theorem Memory.read_writeBytes_outside (bs : List Byte) (m : Memory) {a x : Nat} (h : x < a ∨ a + bs.length ≤ x) :
    (m.writeBytes a bs).read x = m.read x := by
  induction bs generalizing m a with
  | nil => rfl
  | cons b bs ih =>
    simp only [List.length_cons] at h
    rw [Memory.writeBytes, ih _ (by omega), Memory.read_write_other _ _ (by omega)]

theorem Memory.read_writeBytes_inside (bs : List Byte) (m : Memory) (a : Nat) {k : Nat} (h : k < bs.length) :
    (m.writeBytes a bs).read (a + k) = bs[k]? := by
  induction bs generalizing m a k with
  | nil => simp at h
  | cons b bs ih =>
    rw [Memory.writeBytes]
    cases k with
    | zero => rw [Memory.read_writeBytes_outside _ _ (by omega)]; simp
    | succ k =>
      have : a + (k + 1) = a + 1 + k := by omega
      rw [this, ih _ _ (by simpa using h)]; simp

/-- A store below `2 ^ 64` keeps the canonical form. -/
theorem Memory.wf_writeBytes (bs : List Byte) {m : Memory} (h : m.wf) {a : Nat} (ha : a + bs.length ≤ 2 ^ 64) :
    (m.writeBytes a bs).wf := by
  induction bs generalizing m a with
  | nil => exact h
  | cons b bs ih =>
    simp only [List.length_cons] at ha
    exact ih (Memory.wf_write h (by omega) b) (by omega)

/-- The bytes that a helper writes keep the canonical form. -/
theorem Memory.wf_writeCells (cs : List (Nat × Byte)) {m : Memory} (h : m.wf) (hc : ∀ c ∈ cs, c.1 < 2 ^ 64) :
    (m.writeCells cs).wf := by
  induction cs generalizing m with
  | nil => exact h
  | cons c cs ih =>
    exact ih (Memory.wf_write h (hc c List.mem_cons_self) _) fun d hd => hc d (List.mem_cons_of_mem _ hd)

theorem Memory.mem_writeBytes (bs : List Byte) {m : Memory} {a : Nat} {c : Host.Cell}
    (h : c ∈ (m.writeBytes a bs).cells) : c ∈ m.cells ∨ (a ≤ c.1 ∧ c.1 < a + bs.length) := by
  induction bs generalizing m a with
  | nil => exact .inl h
  | cons b bs ih =>
    rcases ih h with h | h
    · rcases Memory.mem_insert h with rfl | h
      · exact .inr (by simp)
      · exact .inl h
    · simp only [List.length_cons]
      exact .inr (by omega)

theorem Memory.mem_writeCells (cs : List (Nat × Byte)) {m : Memory} {c : Host.Cell}
    (h : c ∈ (m.writeCells cs).cells) : c ∈ m.cells ∨ ∃ d ∈ cs, d.1 = c.1 := by
  induction cs generalizing m with
  | nil => exact .inl h
  | cons d cs ih =>
    rcases ih h with h | ⟨e, he, hec⟩
    · rcases Memory.mem_insert h with rfl | h
      · exact .inr ⟨d, List.mem_cons_self, rfl⟩
      · exact .inl h
    · exact .inr ⟨e, List.mem_cons_of_mem _ he, hec⟩

theorem Memory.read_writeCells_outside (cs : List (Nat × Byte)) (m : Memory) {x : Nat} (h : ∀ c ∈ cs, c.1 ≠ x) :
    (m.writeCells cs).read x = m.read x := by
  induction cs generalizing m with
  | nil => rfl
  | cons c cs ih =>
    rw [Memory.writeCells, ih _ fun d hd => h d (List.mem_cons_of_mem _ hd),
      Memory.read_write_other _ _ (h c List.mem_cons_self).symm]

/-! ## What other agents do to memory -/

/-- All that the other agents' turn can do: it writes bytes that they may change, and counts their turns. -/
theorem State.othersAct_eq (s : State) :
    s.othersAct = s ∨ ∃ cs : List (Nat × Byte), (∀ c ∈ cs, c.1 < 2 ^ 64 ∧ s.params.interferes c.1 = true) ∧
      s.status = .running ∧ s.othersAct = { s with mem := s.mem.writeCells cs, turns := s.turns + 1 } := by
  unfold State.othersAct
  split
  · next h => exact .inr ⟨_, fun c hc => by simpa using (List.mem_filter.mp hc).2, h.2, rfl⟩
  · exact .inl rfl

theorem State.othersAct_of_alone {s : State} (h : s.params.externalAgents = false) : s.othersAct = s := by
  simp [State.othersAct, h]

/-- A byte that other agents may not change stays as it is. -/
theorem State.read_othersAct {s : State} {a : Nat} (h : s.params.interferes a = false) :
    s.othersAct.mem.read a = s.mem.read a := by
  rcases s.othersAct_eq with e | ⟨cs, hc, -, e⟩
  · rw [e]
  · rw [e]
    exact Memory.read_writeCells_outside _ _ fun c hm he => by have := (hc c hm).2; simp_all

/-- The other agents' turn keeps the canonical form. -/
theorem State.wf_othersAct {s : State} (h : s.mem.wf) : s.othersAct.mem.wf := by
  rcases s.othersAct_eq with e | ⟨cs, hc, -, e⟩
  · rwa [e]
  · rw [e]
    exact Memory.wf_writeCells _ h fun c hm => (hc c hm).1

@[simp] theorem disassemble_length (e : Endian) (n : Nat) (v : Word) : (disassemble e n v).length = n := by
  cases e <;> simp [disassemble]

end Sys2Proof.Machine
end

