-- ==== Sys2Proof/Laws/Registers.lean ====
section
/-! SUPPORT. Reading a register after a write of one. -/

namespace Sys2Proof.Machine

@[simp] theorem RegFile.get_put_same (f : RegFile) (r : Reg) (v : Option Word) : (f.put r v).get r = v := by
  cases r <;> rfl

theorem RegFile.get_put_other (f : RegFile) {r q : Reg} (v : Option Word) (h : q ≠ r) :
    (f.put r v).get q = f.get q := by
  cases r <;> cases q <;> first | rfl | exact absurd rfl h

@[simp] theorem State.reg_setReg_same (s : State) (r : Reg) (v : Word) : (s.setReg r v).reg r = some v :=
  RegFile.get_put_same _ _ _

theorem State.reg_setReg_other (s : State) {r q : Reg} (v : Word) (h : q ≠ r) : (s.setReg r v).reg q = s.reg q :=
  RegFile.get_put_other _ _ h

@[simp] theorem State.reg_skip (s : State) (n : Int) (r : Reg) : (s.skip n).reg r = s.reg r := rfl

@[simp] theorem State.reg_drew (s : State) (n : Nat) (r : Reg) : (s.drew n).reg r = s.reg r := rfl

@[simp] theorem State.reg_store (s : State) (a n : Nat) (v : Word) (r : Reg) : (s.store a n v).reg r = s.reg r := rfl

@[simp] theorem State.reg_othersAct (s : State) (r : Reg) : s.othersAct.reg r = s.reg r := by
  simp [State.reg]

theorem Reg.writable_iff (r : Reg) : r.writable = true ↔ r ≠ .r10 := by
  cases r <;> decide

end Sys2Proof.Machine
end

