-- ==== Sys2Proof/Laws/Operations.lean ====
section
/-! SUPPORT. For each shared operation, all it can do where it answers a next state. -/

namespace Sys2Proof.Machine

@[simp] theorem raise_ne_next (k : Fault) (t : State) : raise k ≠ .next t := nofun

theorem next_eq_next {s t : State} : (Host.Outcome.next s : Result) = .next t ↔ t = s :=
  ⟨fun h => by injection h with h; exact h.symm, fun h => h ▸ rfl⟩

theorem readReg_next {s t : State} {r : Reg} {rest : Word → Result} :
    readReg s r rest = .next t ↔ ∃ v, s.reg r = some v ∧ rest v = .next t := by
  unfold readReg
  cases s.reg r <;> simp

theorem guardWrite_next {s t : State} {r : Reg} {rest : Result} :
    guardWrite s r rest = .next t ↔ r.writable = true ∧ rest = .next t := by
  unfold guardWrite
  cases r.writable <;> simp

theorem checkAccess_next {s t : State} {aligned : Bool} {kind : AccessKind} {addr : Word} {n : Nat} {rest : Result} :
    checkAccess s aligned kind addr n rest = .next t ↔
      (aligned = true → addr.toNat % n = 0) ∧ s.params.admits kind addr.toNat n = true ∧ rest = .next t := by
  unfold checkAccess
  split
  · simp_all
  · split <;> simp_all

theorem platform_next {value : Option Word} {subtype : BitVec 4} {imm : Word32} {rest : Word → Result} {t : State} :
    platform value subtype imm rest = .next t ↔ ∃ v, value = some v ∧ rest v = .next t := by
  unfold platform
  cases value <;> simp

theorem readArgs_next {s t : State} {as : List ArgReg} {rest : Result} :
    readArgs s as rest = .next t ↔ (∀ a ∈ as, ∃ v, s.reg a.reg = some v) ∧ rest = .next t := by
  induction as with
  | nil => simp [readArgs]
  | cons a as ih => simp [readArgs, readReg_next, ih, and_assoc]

theorem checkWrites_next {s t : State} {cs : List (Nat × Byte)} {rest : Result} :
    checkWrites s cs rest = .next t ↔ (∀ c ∈ cs, s.params.admits .write c.1 1 = true) ∧ rest = .next t := by
  induction cs with
  | nil => simp [checkWrites]
  | cons c cs ih =>
    unfold checkWrites
    split <;> simp_all

@[simp] theorem writeBack_next {dst : Reg} {v : Word} {s t : State} :
    writeBack dst v s = .next t ↔ t = (s.setReg dst v).skip 1 := by
  simp [writeBack, eq_comm]

@[simp] theorem writeWide_next {dst : Reg} {v : Word} {s t : State} :
    writeWide dst v s = .next t ↔ t = (s.setReg dst v).skip 2 := by
  simp [writeWide, eq_comm]

@[simp] theorem branch_next {taken : Bool} {d : Int} {s t : State} :
    branch taken d s = .next t ↔ t = s.skip (if taken then 1 + d else 1) := by
  simp [branch, eq_comm]

theorem alu64K_next {f : Word → Word → Word} {dst : Reg} {imm : Word32} {s t : State} :
    alu64K f dst imm s = .next t ↔
      dst.writable = true ∧ ∃ a, s.reg dst = some a ∧ t = (s.setReg dst (f a (sextImm imm))).skip 1 := by
  simp [alu64K, guardWrite_next, readReg_next]

theorem alu64X_next {f : Word → Word → Word} {dst src : Reg} {s t : State} :
    alu64X f dst src s = .next t ↔
      dst.writable = true ∧ ∃ a, s.reg dst = some a ∧ ∃ b, s.reg src = some b ∧
        t = (s.setReg dst (f a b)).skip 1 := by
  simp [alu64X, guardWrite_next, readReg_next]

theorem alu32K_next {f : Word32 → Word32 → Word32} {dst : Reg} {imm : Word32} {s t : State} :
    alu32K f dst imm s = .next t ↔
      dst.writable = true ∧ ∃ a, s.reg dst = some a ∧ t = (s.setReg dst (zext (f (low32 a) imm))).skip 1 := by
  simp [alu32K, guardWrite_next, readReg_next]

theorem alu32X_next {f : Word32 → Word32 → Word32} {dst src : Reg} {s t : State} :
    alu32X f dst src s = .next t ↔
      dst.writable = true ∧ ∃ a, s.reg dst = some a ∧ ∃ b, s.reg src = some b ∧
        t = (s.setReg dst (zext (f (low32 a) (low32 b)))).skip 1 := by
  simp [alu32X, guardWrite_next, readReg_next]

theorem aluUnary_next {f : Word → Word} {dst : Reg} {s t : State} :
    aluUnary f dst s = .next t ↔
      dst.writable = true ∧ ∃ a, s.reg dst = some a ∧ t = (s.setReg dst (f a)).skip 1 := by
  simp [aluUnary, guardWrite_next, readReg_next]

theorem moveK_next {v : Word} {dst : Reg} {s t : State} :
    moveK v dst s = .next t ↔ dst.writable = true ∧ t = (s.setReg dst v).skip 1 := by
  simp [moveK, guardWrite_next]

theorem moveX_next {f : Word → Word} {dst src : Reg} {s t : State} :
    moveX f dst src s = .next t ↔
      dst.writable = true ∧ ∃ b, s.reg src = some b ∧ t = (s.setReg dst (f b)).skip 1 := by
  simp [moveX, guardWrite_next, readReg_next]

theorem jump64K_next {c : Word → Word → Bool} {dst : Reg} {imm : Word32} {off : BitVec 16} {s t : State} :
    jump64K c dst imm off s = .next t ↔
      ∃ a, s.reg dst = some a ∧ t = s.skip (if c a (sextImm imm) then 1 + off.toInt else 1) := by
  simp [jump64K, readReg_next]

theorem jump64X_next {c : Word → Word → Bool} {dst src : Reg} {off : BitVec 16} {s t : State} :
    jump64X c dst src off s = .next t ↔
      ∃ a, s.reg dst = some a ∧ ∃ b, s.reg src = some b ∧ t = s.skip (if c a b then 1 + off.toInt else 1) := by
  simp [jump64X, readReg_next]

theorem jump32K_next {c : Word32 → Word32 → Bool} {dst : Reg} {imm : Word32} {off : BitVec 16} {s t : State} :
    jump32K c dst imm off s = .next t ↔
      ∃ a, s.reg dst = some a ∧ t = s.skip (if c (low32 a) imm then 1 + off.toInt else 1) := by
  simp [jump32K, readReg_next]

theorem jump32X_next {c : Word32 → Word32 → Bool} {dst src : Reg} {off : BitVec 16} {s t : State} :
    jump32X c dst src off s = .next t ↔
      ∃ a, s.reg dst = some a ∧ ∃ b, s.reg src = some b ∧
        t = s.skip (if c (low32 a) (low32 b) then 1 + off.toInt else 1) := by
  simp [jump32X, readReg_next]

theorem loadForm_next {size : Size} {ext : Word → Word} {dst src : Reg} {off : BitVec 16} {s t : State} :
    loadForm size ext dst src off s = .next t ↔
      dst.writable = true ∧ ∃ base, s.reg src = some base ∧
        (s.params.strictAlign = true → (effectiveAddress base off).toNat % size.bytes = 0) ∧
        s.params.admits .read (effectiveAddress base off).toNat size.bytes = true ∧
        t = ((s.drew size.bytes).setReg dst (ext (s.load (effectiveAddress base off).toNat size.bytes))).skip 1 := by
  simp [loadForm, guardWrite_next, readReg_next, checkAccess_next]

theorem storeAt_next {size : Size} {base : Word} {off : BitVec 16} {v : Word} {s t : State} :
    storeAt size base off v s = .next t ↔
      (s.params.strictAlign = true → (effectiveAddress base off).toNat % size.bytes = 0) ∧
      s.params.admits .write (effectiveAddress base off).toNat size.bytes = true ∧
      t = (s.store (effectiveAddress base off).toNat size.bytes v).skip 1 := by
  simp only [storeAt, checkAccess_next, next_eq_next]

theorem storeImm_next {size : Size} {dst : Reg} {off : BitVec 16} {imm : Word32} {s t : State} :
    storeImm size dst off imm s = .next t ↔
      ∃ base, s.reg dst = some base ∧ storeAt size base off (sextImm imm) s = .next t := by
  simp [storeImm, readReg_next]

theorem storeReg_next {size : Size} {dst src : Reg} {off : BitVec 16} {s t : State} :
    storeReg size dst src off s = .next t ↔
      ∃ base, s.reg dst = some base ∧ ∃ v, s.reg src = some v ∧ storeAt size base off v s = .next t := by
  simp [storeReg, readReg_next]

theorem atomicRmw_next {size : Size} {base : Word} {off : BitVec 16} {f : Word → Word} {s t : State}
    {rest : Word → State → Result} :
    atomicRmw size base off f s rest = .next t ↔
      (effectiveAddress base off).toNat % size.bytes = 0 ∧
      s.params.admits .readWrite (effectiveAddress base off).toNat size.bytes = true ∧
      rest (s.load (effectiveAddress base off).toNat size.bytes)
        ((s.drew size.bytes).store (effectiveAddress base off).toNat size.bytes
          (f (s.load (effectiveAddress base off).toNat size.bytes))) = .next t := by
  simp [atomicRmw, checkAccess_next]

theorem atomic64_next {f : Word → Word → Word} {dst src : Reg} {off : BitVec 16} {s t : State} :
    atomic64 f dst src off s = .next t ↔
      ∃ base, s.reg dst = some base ∧ ∃ v, s.reg src = some v ∧
        (effectiveAddress base off).toNat % 8 = 0 ∧
        s.params.admits .readWrite (effectiveAddress base off).toNat 8 = true ∧
        t = ((s.drew 8).store (effectiveAddress base off).toNat 8
          (f (s.load (effectiveAddress base off).toNat 8) v)).skip 1 := by
  simp only [atomic64, readReg_next, atomicRmw_next, next_eq_next, Size.bytes]

theorem atomicFetch64_next {f : Word → Word → Word} {dst src : Reg} {off : BitVec 16} {s t : State} :
    atomicFetch64 f dst src off s = .next t ↔
      src.writable = true ∧ ∃ base, s.reg dst = some base ∧ ∃ v, s.reg src = some v ∧
        (effectiveAddress base off).toNat % 8 = 0 ∧
        s.params.admits .readWrite (effectiveAddress base off).toNat 8 = true ∧
        t = (((s.drew 8).store (effectiveAddress base off).toNat 8
          (f (s.load (effectiveAddress base off).toNat 8) v)).setReg src
          (s.load (effectiveAddress base off).toNat 8)).skip 1 := by
  simp only [atomicFetch64, guardWrite_next, readReg_next, atomicRmw_next, writeBack_next, Size.bytes]

theorem atomic32_next {f : Word32 → Word32 → Word32} {dst src : Reg} {off : BitVec 16} {s t : State} :
    atomic32 f dst src off s = .next t ↔
      ∃ base, s.reg dst = some base ∧ ∃ v, s.reg src = some v ∧
        (effectiveAddress base off).toNat % 4 = 0 ∧
        s.params.admits .readWrite (effectiveAddress base off).toNat 4 = true ∧
        t = ((s.drew 4).store (effectiveAddress base off).toNat 4
          (zext (f (low32 (s.load (effectiveAddress base off).toNat 4)) (low32 v)))).skip 1 := by
  simp only [atomic32, readReg_next, atomicRmw_next, next_eq_next, Size.bytes]

theorem atomicFetch32_next {f : Word32 → Word32 → Word32} {dst src : Reg} {off : BitVec 16} {s t : State} :
    atomicFetch32 f dst src off s = .next t ↔
      src.writable = true ∧ ∃ base, s.reg dst = some base ∧ ∃ v, s.reg src = some v ∧
        (effectiveAddress base off).toNat % 4 = 0 ∧
        s.params.admits .readWrite (effectiveAddress base off).toNat 4 = true ∧
        t = (((s.drew 4).store (effectiveAddress base off).toNat 4
          (zext (f (low32 (s.load (effectiveAddress base off).toNat 4)) (low32 v)))).setReg src
          (zext (low32 (s.load (effectiveAddress base off).toNat 4)))).skip 1 := by
  simp only [atomicFetch32, guardWrite_next, readReg_next, atomicRmw_next, writeBack_next, Size.bytes]

/-- The reply to a call that belongs to some case of the relation is that of such a case (R403). -/
theorem helperReply_of_case {s : State} {h : Helper} {c : HelperCase} (hc : c ∈ h.cases) (hs : s.meets c = true) :
    ∃ d ∈ h.cases, s.meets d = true ∧ s.helperReply h = d.reply := by
  have hm : c ∈ h.cases.filter s.meets := List.mem_filter.mpr ⟨hc, hs⟩
  unfold State.helperReply
  split
  · simp_all
  · next d e =>
    have hd := List.mem_filter.mp (e ▸ List.mem_singleton_self d : d ∈ h.cases.filter s.meets)
    exact ⟨d, hd.1, hd.2, rfl⟩
  · next d ds _ e =>
    have hk : Config.helperChoice s.calls % (ds.length + 1) < (d :: ds).length := Nat.mod_lt _ (by simp)
    rw [List.getD_eq_getElem?_getD, List.getElem?_eq_getElem hk, Option.getD_some]
    have hall : ∀ x ∈ d :: ds, x ∈ h.cases ∧ s.meets x = true := fun x hx => List.mem_filter.mp (e ▸ hx)
    exact ⟨_, (hall _ (List.getElem_mem hk)).1, (hall _ (List.getElem_mem hk)).2, rfl⟩

theorem callHelperForm_next {kind : HelperKind} {imm : Word32} {s t : State} :
    callHelperForm kind imm s = .next t ↔
      ∃ h, s.params.helper kind imm = some h ∧ (∀ a ∈ (s.helperReply h).reads, ∃ v, s.reg a.reg = some v) ∧
        ∃ r0 writes, (s.helperReply h).outcome = .result r0 writes ∧
          (∀ c ∈ writes, s.params.admits .write c.1 1 = true) ∧
          t = { s with
            regs := s.regs.afterHelper r0
            mem := s.mem.writeCells writes
            calls := s.calls + 1
            pc := s.pc + 1 } := by
  unfold callHelperForm
  cases s.params.helper kind imm with
  | none => simp
  | some h =>
    simp only [readArgs_next, Option.some.injEq, exists_eq_left']
    cases (s.helperReply h).outcome with
    | failed why => simp
    | result r0 writes =>
      simp only [checkWrites_next, next_eq_next, HelperOutcome.result.injEq]
      constructor
      · rintro ⟨ha, hw, rfl⟩
        exact ⟨ha, r0, writes, ⟨rfl, rfl⟩, hw, rfl⟩
      · rintro ⟨ha, _, _, ⟨rfl, rfl⟩, hw, rfl⟩
        exact ⟨ha, hw, rfl⟩

theorem othersFollow_next {x : Result} {u : State} : othersFollow x = .next u ↔ ∃ t, x = .next t ∧ u = t.othersAct := by
  cases x <;> simp [othersFollow, eq_comm]

theorem othersFollow_fault {x : Result} {k : Fault} : othersFollow x = .fault k ↔ x = .fault k := by
  cases x <;> simp [othersFollow]

theorem othersFollow_refused {x : Result} {r : Refusal} : othersFollow x = .refused r ↔ x = .refused r := by
  cases x <;> simp [othersFollow]

theorem wideForm_next {value : Option Word} {subtype : BitVec 4} {dst : Reg} {imm : Word32} {s t : State} :
    wideForm value subtype dst imm s = .next t ↔
      dst.writable = true ∧ ∃ v, value = some v ∧ t = (s.setReg dst v).skip 2 := by
  simp [wideForm, guardWrite_next, platform_next]

/-- Admission as a sentence (R91). -/
theorem Params.admits_iff {p : Params} {kind : AccessKind} {a n : Nat} :
    p.admits kind a n = true ↔
      a + n ≤ 2 ^ 64 ∧ ∃ r ∈ p.regions, r.holds a n = true ∧ r.permits kind = true := by
  simp [Params.admits]

end Sys2Proof.Machine
end

