-- ==== Sys2Proof/Laws/Accesses.lean ====
section
/-! SUPPORT. A load gives a value that a read may give, a store stores, and admission in the words of Safety. -/

namespace Sys2Proof.Machine

theorem admits_iff_admitted {s : State} {kind : AccessKind} {a n : Nat} :
    s.params.admits kind a n = true ↔ s.admitted kind a n := by
  rw [Params.admits_iff]
  unfold State.admitted
  cases kind <;> simp [Region.holds, Region.permits, and_assoc]

theorem toNat_wordOfBytes_cons (b : Byte) (bs : List Byte) (h : (wordOfBytes bs).toNat < 2 ^ 56) :
    (wordOfBytes (b :: bs)).toNat = (wordOfBytes bs).toNat * 256 + b.toNat := by
  have e : (wordOfBytes bs <<< 8).toNat = (wordOfBytes bs).toNat * 256 := by
    rw [BitVec.toNat_shiftLeft, Nat.shiftLeft_eq]
    exact Nat.mod_eq_of_lt (by omega)
  have e2 : (b.setWidth 64).toNat = b.toNat := BitVec.toNat_setWidth_of_le (by decide)
  have := Nat.shiftLeft_add_eq_or_of_lt b.isLt (wordOfBytes bs).toNat
  rw [Nat.shiftLeft_eq, show 2 ^ 8 = 256 from rfl] at this
  rw [wordOfBytes, BitVec.toNat_or, e, e2]
  omega

theorem toNat_wordOfBytes_lt (bs : List Byte) (h : bs.length ≤ 8) : (wordOfBytes bs).toNat < 2 ^ (8 * bs.length) := by
  induction bs with
  | nil => simp [wordOfBytes]
  | cons b bs ih =>
    simp only [List.length_cons] at h ⊢
    have ih := ih (by omega)
    have : 2 ^ (8 * bs.length) ≤ 2 ^ 56 := Nat.pow_le_pow_right (by decide) (by omega)
    have e : 2 ^ (8 * (bs.length + 1)) = 2 ^ (8 * bs.length) * 256 := by rw [Nat.mul_add, pow_add]; rfl
    rw [toNat_wordOfBytes_cons b bs (by omega), e]
    have := b.isLt
    omega

theorem byte_wordOfBytes (bs : List Byte) (h : bs.length ≤ 8) {k : Nat} (hk : k < bs.length) :
    some ((wordOfBytes bs).extractLsb' (8 * k) 8) = bs[k]? := by
  induction bs generalizing k with
  | nil => simp at hk
  | cons b bs ih =>
    simp only [List.length_cons] at h hk
    cases k with
    | zero =>
      simp only [wordOfBytes, List.getElem?_cons_zero, Option.some.injEq]
      apply BitVec.eq_of_getLsbD_eq
      intro j hj
      simp
      grind
    | succ k =>
      rw [List.getElem?_cons_succ, ← ih (by omega) (by omega : k < bs.length)]
      congr 1
      apply BitVec.eq_of_getLsbD_eq
      intro j hj
      have h1 : 8 * (k + 1) + j < 64 := by omega
      have h2 : ¬ 8 * (k + 1) + j < 8 := by omega
      have h3 : 8 * (k + 1) + j - 8 = 8 * k + j := by omega
      simp [wordOfBytes, hj, h1, h2, h3, BitVec.getLsbD_of_ge b _ (by omega : 8 ≤ 8 * (k + 1) + j)]
      rw [BitVec.getLsbD_eq_getElem]

/-- What a load gives (R82, R93). -/
theorem reads_load (s : State) (a : Nat) {n : Nat} (hn : n ≤ 8) : s.reads a n (s.load a n) := by
  have hl : (s.readBytes a n).length = n := by simp [State.readBytes]
  unfold State.reads State.load assemble bytePlace
  cases s.params.endian
  · refine ⟨by simpa [hl] using toNat_wordOfBytes_lt (s.readBytes a n) (by omega), fun k hk b hb => ?_⟩
    have := byte_wordOfBytes (s.readBytes a n) (by omega) (by omega : k < _)
    simpa [State.readBytes, hk, hb] using this
  · refine ⟨by simpa [hl] using toNat_wordOfBytes_lt (s.readBytes a n).reverse (by simp; omega), fun k hk b hb => ?_⟩
    have := byte_wordOfBytes (s.readBytes a n).reverse (by simp; omega) (by simp; omega : k < _)
    rw [List.getElem?_reverse (by omega), hl] at this
    simpa [State.readBytes, (by omega : n - 1 - k < n), hb] using this

/-- What a store leaves (R82, R83). -/
theorem stored_store (s : State) (a n : Nat) (v : Word) : s.stored (s.store a n v) a n v := by
  refine ⟨fun k hk => ?_, fun x hx => ?_⟩
  · rw [State.store_mem]
    unfold bytePlace disassemble
    cases s.params.endian <;> dsimp only
    · rw [Memory.read_writeBytes_inside _ _ _ (by simpa using hk)]
      simp [hk, byteOfWord]
    · rw [Memory.read_writeBytes_inside _ _ _ (by simp; omega), List.getElem?_reverse (by simp; omega)]
      simp [byteOfWord, (by omega : n - 1 - (n - 1 - k) = k), hk]
  · rw [State.store_mem]
    exact Memory.read_writeBytes_outside _ _ (by simpa using hx)

end Sys2Proof.Machine
end

