-- ==== Sys2Proof/Laws/Arithmetic.lean ====
section
/-! SUPPORT. The arithmetic of the operand forms in the words of Lean's own operations, and the byte order functions byte
by byte. -/

namespace Sys2Proof.Machine

theorem count64_eq (b : Word) : count64 b = b.toNat % 64 := by
  simp [count64]

theorem count32_eq (b : Word32) : count32 b = b.toNat % 32 := by
  simp [count32]

theorem umodOrSame_eq {n : Nat} (a b : BitVec n) :
    umodOrSame a b = if b = 0 then a else BitVec.ofNat n (a.toNat % b.toNat) := by
  unfold umodOrSame
  have := Nat.div_add_mod a.toNat b.toNat
  congr 2
  omega

theorem smodOrSame_eq {n : Nat} (a b : BitVec n) :
    smodOrSame a b = if b = 0 then a else BitVec.ofInt n (a.toInt.tmod b.toInt) := by
  unfold smodOrSame
  rw [Int.tmod_def]
  rfl

theorem toNat_zext (v : Word32) : (zext v).toNat = v.toNat :=
  BitVec.toNat_setWidth_of_le (by decide)

theorem bswap16_byte (v : BitVec 16) {k : Nat} (hk : k < 2) :
    (bswap16 v).extractLsb' (8 * k) 8 = v.extractLsb' (8 * (1 - k)) 8 := by
  unfold bswap16
  interval_cases k <;> ext j hj <;> simp <;> grind

theorem bswap32_byte (v : BitVec 32) {k : Nat} (hk : k < 4) :
    (bswap32 v).extractLsb' (8 * k) 8 = v.extractLsb' (8 * (3 - k)) 8 := by
  unfold bswap32
  interval_cases k <;> ext j hj <;> simp <;> grind

theorem bswap64_byte (v : BitVec 64) {k : Nat} (hk : k < 8) :
    (bswap64 v).extractLsb' (8 * k) 8 = v.extractLsb' (8 * (7 - k)) 8 := by
  apply BitVec.eq_of_getLsbD_eq
  intro j hj
  rw [BitVec.getLsbD_extractLsb', BitVec.getLsbD_extractLsb']
  unfold bswap64
  iterate 7 erw [BitVec.getLsbD_append]
  simp only [BitVec.getLsbD_extractLsb']
  interval_cases k <;> simp <;> grind

end Sys2Proof.Machine
end

