-- ==== Sys2Proof/Laws/Decoding.lean ====
section
/-! SUPPORT. Fields, register numbers and the checks of the decoder, each on what the encoder writes. -/

namespace Sys2Proof

@[simp] theorem Reg.ofNum_num (r : Reg) : Reg.ofNum r.num = some r := by
  cases r <;> rfl

theorem Reg.num_ofNum {n : BitVec 4} {r : Reg} (h : Reg.ofNum n = some r) : r.num = n := by
  revert n r; decide

@[simp] theorem Fields.ofSlot_toSlot (e : Endian) (f : Fields) : Fields.ofSlot e (Fields.toSlot e f) = f := by
  obtain ⟨op, d, s, o, i⟩ := f
  cases e <;> simp only [Fields.toSlot, Fields.ofSlot, Fields.mk.injEq, true_and] <;>
    refine ⟨?_, ?_, ?_, ?_⟩ <;> ext k hk <;>
    simp <;> grind

@[simp] theorem readField_num (name : FieldName) (r : Reg) (rest : Reg → Except Illegal Instr) :
    readField name r.num rest = rest r := by
  simp [readField]

@[simp] theorem writeField_num (name : FieldName) (r : Reg) (rest : Reg → Except Illegal Instr)
    (h : r.writable = true) : writeField name r.num rest = rest r := by
  simp [writeField, h]

theorem Fields.toSlot_ofSlot (e : Endian) (w : Slot) : Fields.toSlot e (Fields.ofSlot e w) = w := by
  obtain ⟨_, _, _, _, _, _, _, _⟩ := w
  cases e <;> simp only [Fields.toSlot, Fields.ofSlot, Slot.mk.injEq, true_and] <;>
    refine ⟨?_, ?_, ?_, ?_, ?_, ?_, ?_⟩ <;> ext k hk <;>
    simp <;> grind

variable {f : Fields} {rest : Except Illegal Instr} {i : Instr}

theorem zeroDst_ok : zeroDst f rest = .ok i ↔ f.dst = 0#4 ∧ rest = .ok i := by
  unfold zeroDst; split <;> simp [*]

theorem zeroSrc_ok : zeroSrc f rest = .ok i ↔ f.src = 0#4 ∧ rest = .ok i := by
  unfold zeroSrc; split <;> simp [*]

theorem zeroOffset_ok : zeroOffset f rest = .ok i ↔ f.offset = 0#16 ∧ rest = .ok i := by
  unfold zeroOffset; split <;> simp [*]

theorem zeroImm_ok : zeroImm f rest = .ok i ↔ f.imm = 0#32 ∧ rest = .ok i := by
  unfold zeroImm; split <;> simp [*]

theorem readField_ok {name : FieldName} {n : BitVec 4} {rest : Reg → Except Illegal Instr} :
    readField name n rest = .ok i ↔ ∃ r : Reg, n = r.num ∧ rest r = .ok i := by
  unfold readField
  split
  · rename_i r h
    refine ⟨fun h2 => ⟨r, (Reg.num_ofNum h).symm, h2⟩, ?_⟩
    rintro ⟨q, rfl, h2⟩
    simp only [Reg.ofNum_num, Option.some.injEq] at h
    exact h ▸ h2
  · rename_i h
    refine ⟨nofun, ?_⟩
    rintro ⟨q, rfl, _⟩
    simp at h

theorem writeField_ok {name : FieldName} {n : BitVec 4} {rest : Reg → Except Illegal Instr} :
    writeField name n rest = .ok i ↔ ∃ r : Reg, n = r.num ∧ r.writable = true ∧ rest r = .ok i := by
  unfold writeField
  rw [readField_ok]
  refine exists_congr fun r => ⟨?_, ?_⟩
  · rintro ⟨h1, h2⟩
    split at h2 <;> simp_all
  · rintro ⟨h1, h2, h3⟩
    simp [*]

theorem secondSlot_ok {second : Option Fields} {rest : Word32 → Except Illegal Instr} :
    secondSlot second rest = .ok i ↔ ∃ n, second = some ⟨0#8, 0#4, 0#4, 0#16, n⟩ ∧ rest n = .ok i := by
  unfold secondSlot
  split
  · simp
  · rename_i g
    obtain ⟨a, b, c, d, n⟩ := g
    split
    · rename_i h
      obtain ⟨rfl, rfl, rfl, rfl⟩ := h
      simp
    · rename_i h
      refine ⟨nofun, ?_⟩
      rintro ⟨m, hm, _⟩
      simp only [Option.some.injEq, Fields.mk.injEq] at hm
      exact absurd ⟨hm.1, hm.2.1, hm.2.2.1, hm.2.2.2.1⟩ h

end Sys2Proof
end

