-- ==== Sys2Proof/Laws/PerInstr.lean ====
section
/-! SUPPORT. The length of an instruction is told by its opcode byte alone (R142), one lemma per constructor. -/

/-- What R142 says of one instruction: the encoder gives it a second slot exactly where its opcode byte is 0x18. -/
def Sys2Proof.Laws.WideByOpcode.Statement (i : Sys2Proof.Instr) : Prop :=
  i.slots = if i.fields.opcode = 0x18#8 then 2 else 1

namespace Sys2Proof.Laws.WideByOpcode

theorem add64Imm (dst : Reg) (imm : Word32) : Statement (.add64Imm dst imm) := rfl
theorem add64Reg (dst src : Reg) : Statement (.add64Reg dst src) := rfl
theorem sub64Imm (dst : Reg) (imm : Word32) : Statement (.sub64Imm dst imm) := rfl
theorem sub64Reg (dst src : Reg) : Statement (.sub64Reg dst src) := rfl
theorem mul64Imm (dst : Reg) (imm : Word32) : Statement (.mul64Imm dst imm) := rfl
theorem mul64Reg (dst src : Reg) : Statement (.mul64Reg dst src) := rfl
theorem div64Imm (dst : Reg) (imm : Word32) : Statement (.div64Imm dst imm) := rfl
theorem div64Reg (dst src : Reg) : Statement (.div64Reg dst src) := rfl
theorem sdiv64Imm (dst : Reg) (imm : Word32) : Statement (.sdiv64Imm dst imm) := rfl
theorem sdiv64Reg (dst src : Reg) : Statement (.sdiv64Reg dst src) := rfl
theorem or64Imm (dst : Reg) (imm : Word32) : Statement (.or64Imm dst imm) := rfl
theorem or64Reg (dst src : Reg) : Statement (.or64Reg dst src) := rfl
theorem and64Imm (dst : Reg) (imm : Word32) : Statement (.and64Imm dst imm) := rfl
theorem and64Reg (dst src : Reg) : Statement (.and64Reg dst src) := rfl
theorem lsh64Imm (dst : Reg) (imm : Word32) : Statement (.lsh64Imm dst imm) := rfl
theorem lsh64Reg (dst src : Reg) : Statement (.lsh64Reg dst src) := rfl
theorem rsh64Imm (dst : Reg) (imm : Word32) : Statement (.rsh64Imm dst imm) := rfl
theorem rsh64Reg (dst src : Reg) : Statement (.rsh64Reg dst src) := rfl
theorem neg64 (dst : Reg) : Statement (.neg64 dst) := rfl
theorem mod64Imm (dst : Reg) (imm : Word32) : Statement (.mod64Imm dst imm) := rfl
theorem mod64Reg (dst src : Reg) : Statement (.mod64Reg dst src) := rfl
theorem smod64Imm (dst : Reg) (imm : Word32) : Statement (.smod64Imm dst imm) := rfl
theorem smod64Reg (dst src : Reg) : Statement (.smod64Reg dst src) := rfl
theorem xor64Imm (dst : Reg) (imm : Word32) : Statement (.xor64Imm dst imm) := rfl
theorem xor64Reg (dst src : Reg) : Statement (.xor64Reg dst src) := rfl
theorem mov64Imm (dst : Reg) (imm : Word32) : Statement (.mov64Imm dst imm) := rfl
theorem mov64Reg (dst src : Reg) : Statement (.mov64Reg dst src) := rfl
theorem movsx64From8 (dst src : Reg) : Statement (.movsx64From8 dst src) := rfl
theorem movsx64From16 (dst src : Reg) : Statement (.movsx64From16 dst src) := rfl
theorem movsx64From32 (dst src : Reg) : Statement (.movsx64From32 dst src) := rfl
theorem arsh64Imm (dst : Reg) (imm : Word32) : Statement (.arsh64Imm dst imm) := rfl
theorem arsh64Reg (dst src : Reg) : Statement (.arsh64Reg dst src) := rfl
theorem add32Imm (dst : Reg) (imm : Word32) : Statement (.add32Imm dst imm) := rfl
theorem add32Reg (dst src : Reg) : Statement (.add32Reg dst src) := rfl
theorem sub32Imm (dst : Reg) (imm : Word32) : Statement (.sub32Imm dst imm) := rfl
theorem sub32Reg (dst src : Reg) : Statement (.sub32Reg dst src) := rfl
theorem mul32Imm (dst : Reg) (imm : Word32) : Statement (.mul32Imm dst imm) := rfl
theorem mul32Reg (dst src : Reg) : Statement (.mul32Reg dst src) := rfl
theorem div32Imm (dst : Reg) (imm : Word32) : Statement (.div32Imm dst imm) := rfl
theorem div32Reg (dst src : Reg) : Statement (.div32Reg dst src) := rfl
theorem sdiv32Imm (dst : Reg) (imm : Word32) : Statement (.sdiv32Imm dst imm) := rfl
theorem sdiv32Reg (dst src : Reg) : Statement (.sdiv32Reg dst src) := rfl
theorem or32Imm (dst : Reg) (imm : Word32) : Statement (.or32Imm dst imm) := rfl
theorem or32Reg (dst src : Reg) : Statement (.or32Reg dst src) := rfl
theorem and32Imm (dst : Reg) (imm : Word32) : Statement (.and32Imm dst imm) := rfl
theorem and32Reg (dst src : Reg) : Statement (.and32Reg dst src) := rfl
theorem lsh32Imm (dst : Reg) (imm : Word32) : Statement (.lsh32Imm dst imm) := rfl
theorem lsh32Reg (dst src : Reg) : Statement (.lsh32Reg dst src) := rfl
theorem rsh32Imm (dst : Reg) (imm : Word32) : Statement (.rsh32Imm dst imm) := rfl
theorem rsh32Reg (dst src : Reg) : Statement (.rsh32Reg dst src) := rfl
theorem neg32 (dst : Reg) : Statement (.neg32 dst) := rfl
theorem mod32Imm (dst : Reg) (imm : Word32) : Statement (.mod32Imm dst imm) := rfl
theorem mod32Reg (dst src : Reg) : Statement (.mod32Reg dst src) := rfl
theorem smod32Imm (dst : Reg) (imm : Word32) : Statement (.smod32Imm dst imm) := rfl
theorem smod32Reg (dst src : Reg) : Statement (.smod32Reg dst src) := rfl
theorem xor32Imm (dst : Reg) (imm : Word32) : Statement (.xor32Imm dst imm) := rfl
theorem xor32Reg (dst src : Reg) : Statement (.xor32Reg dst src) := rfl
theorem mov32Imm (dst : Reg) (imm : Word32) : Statement (.mov32Imm dst imm) := rfl
theorem mov32Reg (dst src : Reg) : Statement (.mov32Reg dst src) := rfl
theorem movsx32From8 (dst src : Reg) : Statement (.movsx32From8 dst src) := rfl
theorem movsx32From16 (dst src : Reg) : Statement (.movsx32From16 dst src) := rfl
theorem arsh32Imm (dst : Reg) (imm : Word32) : Statement (.arsh32Imm dst imm) := rfl
theorem arsh32Reg (dst src : Reg) : Statement (.arsh32Reg dst src) := rfl
theorem le16 (dst : Reg) : Statement (.le16 dst) := rfl
theorem le32 (dst : Reg) : Statement (.le32 dst) := rfl
theorem le64 (dst : Reg) : Statement (.le64 dst) := rfl
theorem be16 (dst : Reg) : Statement (.be16 dst) := rfl
theorem be32 (dst : Reg) : Statement (.be32 dst) := rfl
theorem be64 (dst : Reg) : Statement (.be64 dst) := rfl
theorem bswap16 (dst : Reg) : Statement (.bswap16 dst) := rfl
theorem bswap32 (dst : Reg) : Statement (.bswap32 dst) := rfl
theorem bswap64 (dst : Reg) : Statement (.bswap64 dst) := rfl
theorem ja (offset : BitVec 16) : Statement (.ja offset) := rfl
theorem jeq64Imm (dst : Reg) (imm : Word32) (offset : BitVec 16) : Statement (.jeq64Imm dst imm offset) := rfl
theorem jeq64Reg (dst src : Reg) (offset : BitVec 16) : Statement (.jeq64Reg dst src offset) := rfl
theorem jgt64Imm (dst : Reg) (imm : Word32) (offset : BitVec 16) : Statement (.jgt64Imm dst imm offset) := rfl
theorem jgt64Reg (dst src : Reg) (offset : BitVec 16) : Statement (.jgt64Reg dst src offset) := rfl
theorem jge64Imm (dst : Reg) (imm : Word32) (offset : BitVec 16) : Statement (.jge64Imm dst imm offset) := rfl
theorem jge64Reg (dst src : Reg) (offset : BitVec 16) : Statement (.jge64Reg dst src offset) := rfl
theorem jset64Imm (dst : Reg) (imm : Word32) (offset : BitVec 16) : Statement (.jset64Imm dst imm offset) := rfl
theorem jset64Reg (dst src : Reg) (offset : BitVec 16) : Statement (.jset64Reg dst src offset) := rfl
theorem jne64Imm (dst : Reg) (imm : Word32) (offset : BitVec 16) : Statement (.jne64Imm dst imm offset) := rfl
theorem jne64Reg (dst src : Reg) (offset : BitVec 16) : Statement (.jne64Reg dst src offset) := rfl
theorem jsgt64Imm (dst : Reg) (imm : Word32) (offset : BitVec 16) : Statement (.jsgt64Imm dst imm offset) := rfl
theorem jsgt64Reg (dst src : Reg) (offset : BitVec 16) : Statement (.jsgt64Reg dst src offset) := rfl
theorem jsge64Imm (dst : Reg) (imm : Word32) (offset : BitVec 16) : Statement (.jsge64Imm dst imm offset) := rfl
theorem jsge64Reg (dst src : Reg) (offset : BitVec 16) : Statement (.jsge64Reg dst src offset) := rfl
theorem jlt64Imm (dst : Reg) (imm : Word32) (offset : BitVec 16) : Statement (.jlt64Imm dst imm offset) := rfl
theorem jlt64Reg (dst src : Reg) (offset : BitVec 16) : Statement (.jlt64Reg dst src offset) := rfl
theorem jle64Imm (dst : Reg) (imm : Word32) (offset : BitVec 16) : Statement (.jle64Imm dst imm offset) := rfl
theorem jle64Reg (dst src : Reg) (offset : BitVec 16) : Statement (.jle64Reg dst src offset) := rfl
theorem jslt64Imm (dst : Reg) (imm : Word32) (offset : BitVec 16) : Statement (.jslt64Imm dst imm offset) := rfl
theorem jslt64Reg (dst src : Reg) (offset : BitVec 16) : Statement (.jslt64Reg dst src offset) := rfl
theorem jsle64Imm (dst : Reg) (imm : Word32) (offset : BitVec 16) : Statement (.jsle64Imm dst imm offset) := rfl
theorem jsle64Reg (dst src : Reg) (offset : BitVec 16) : Statement (.jsle64Reg dst src offset) := rfl
theorem ja32 (imm : Word32) : Statement (.ja32 imm) := rfl
theorem jeq32Imm (dst : Reg) (imm : Word32) (offset : BitVec 16) : Statement (.jeq32Imm dst imm offset) := rfl
theorem jeq32Reg (dst src : Reg) (offset : BitVec 16) : Statement (.jeq32Reg dst src offset) := rfl
theorem jgt32Imm (dst : Reg) (imm : Word32) (offset : BitVec 16) : Statement (.jgt32Imm dst imm offset) := rfl
theorem jgt32Reg (dst src : Reg) (offset : BitVec 16) : Statement (.jgt32Reg dst src offset) := rfl
theorem jge32Imm (dst : Reg) (imm : Word32) (offset : BitVec 16) : Statement (.jge32Imm dst imm offset) := rfl
theorem jge32Reg (dst src : Reg) (offset : BitVec 16) : Statement (.jge32Reg dst src offset) := rfl
theorem jset32Imm (dst : Reg) (imm : Word32) (offset : BitVec 16) : Statement (.jset32Imm dst imm offset) := rfl
theorem jset32Reg (dst src : Reg) (offset : BitVec 16) : Statement (.jset32Reg dst src offset) := rfl
theorem jne32Imm (dst : Reg) (imm : Word32) (offset : BitVec 16) : Statement (.jne32Imm dst imm offset) := rfl
theorem jne32Reg (dst src : Reg) (offset : BitVec 16) : Statement (.jne32Reg dst src offset) := rfl
theorem jsgt32Imm (dst : Reg) (imm : Word32) (offset : BitVec 16) : Statement (.jsgt32Imm dst imm offset) := rfl
theorem jsgt32Reg (dst src : Reg) (offset : BitVec 16) : Statement (.jsgt32Reg dst src offset) := rfl
theorem jsge32Imm (dst : Reg) (imm : Word32) (offset : BitVec 16) : Statement (.jsge32Imm dst imm offset) := rfl
theorem jsge32Reg (dst src : Reg) (offset : BitVec 16) : Statement (.jsge32Reg dst src offset) := rfl
theorem jlt32Imm (dst : Reg) (imm : Word32) (offset : BitVec 16) : Statement (.jlt32Imm dst imm offset) := rfl
theorem jlt32Reg (dst src : Reg) (offset : BitVec 16) : Statement (.jlt32Reg dst src offset) := rfl
theorem jle32Imm (dst : Reg) (imm : Word32) (offset : BitVec 16) : Statement (.jle32Imm dst imm offset) := rfl
theorem jle32Reg (dst src : Reg) (offset : BitVec 16) : Statement (.jle32Reg dst src offset) := rfl
theorem jslt32Imm (dst : Reg) (imm : Word32) (offset : BitVec 16) : Statement (.jslt32Imm dst imm offset) := rfl
theorem jslt32Reg (dst src : Reg) (offset : BitVec 16) : Statement (.jslt32Reg dst src offset) := rfl
theorem jsle32Imm (dst : Reg) (imm : Word32) (offset : BitVec 16) : Statement (.jsle32Imm dst imm offset) := rfl
theorem jsle32Reg (dst src : Reg) (offset : BitVec 16) : Statement (.jsle32Reg dst src offset) := rfl
theorem callHelper (imm : Word32) : Statement (.callHelper imm) := rfl
theorem callLocal (imm : Word32) : Statement (.callLocal imm) := rfl
theorem callBtf (imm : Word32) : Statement (.callBtf imm) := rfl
theorem exit : Statement .exit := rfl
theorem ldxW (dst src : Reg) (offset : BitVec 16) : Statement (.ldxW dst src offset) := rfl
theorem ldxH (dst src : Reg) (offset : BitVec 16) : Statement (.ldxH dst src offset) := rfl
theorem ldxB (dst src : Reg) (offset : BitVec 16) : Statement (.ldxB dst src offset) := rfl
theorem ldxDw (dst src : Reg) (offset : BitVec 16) : Statement (.ldxDw dst src offset) := rfl
theorem stW (dst : Reg) (offset : BitVec 16) (imm : Word32) : Statement (.stW dst offset imm) := rfl
theorem stH (dst : Reg) (offset : BitVec 16) (imm : Word32) : Statement (.stH dst offset imm) := rfl
theorem stB (dst : Reg) (offset : BitVec 16) (imm : Word32) : Statement (.stB dst offset imm) := rfl
theorem stDw (dst : Reg) (offset : BitVec 16) (imm : Word32) : Statement (.stDw dst offset imm) := rfl
theorem stxW (dst src : Reg) (offset : BitVec 16) : Statement (.stxW dst src offset) := rfl
theorem stxH (dst src : Reg) (offset : BitVec 16) : Statement (.stxH dst src offset) := rfl
theorem stxB (dst src : Reg) (offset : BitVec 16) : Statement (.stxB dst src offset) := rfl
theorem stxDw (dst src : Reg) (offset : BitVec 16) : Statement (.stxDw dst src offset) := rfl
theorem ldxsxW (dst src : Reg) (offset : BitVec 16) : Statement (.ldxsxW dst src offset) := rfl
theorem ldxsxH (dst src : Reg) (offset : BitVec 16) : Statement (.ldxsxH dst src offset) := rfl
theorem ldxsxB (dst src : Reg) (offset : BitVec 16) : Statement (.ldxsxB dst src offset) := rfl
theorem atomicAdd32 (dst src : Reg) (offset : BitVec 16) : Statement (.atomicAdd32 dst src offset) := rfl
theorem atomicFetchAdd32 (dst src : Reg) (offset : BitVec 16) : Statement (.atomicFetchAdd32 dst src offset) := rfl
theorem atomicOr32 (dst src : Reg) (offset : BitVec 16) : Statement (.atomicOr32 dst src offset) := rfl
theorem atomicFetchOr32 (dst src : Reg) (offset : BitVec 16) : Statement (.atomicFetchOr32 dst src offset) := rfl
theorem atomicAnd32 (dst src : Reg) (offset : BitVec 16) : Statement (.atomicAnd32 dst src offset) := rfl
theorem atomicFetchAnd32 (dst src : Reg) (offset : BitVec 16) : Statement (.atomicFetchAnd32 dst src offset) := rfl
theorem atomicXor32 (dst src : Reg) (offset : BitVec 16) : Statement (.atomicXor32 dst src offset) := rfl
theorem atomicFetchXor32 (dst src : Reg) (offset : BitVec 16) : Statement (.atomicFetchXor32 dst src offset) := rfl
theorem atomicXchg32 (dst src : Reg) (offset : BitVec 16) : Statement (.atomicXchg32 dst src offset) := rfl
theorem atomicCmpxchg32 (dst src : Reg) (offset : BitVec 16) : Statement (.atomicCmpxchg32 dst src offset) := rfl
theorem atomicAdd64 (dst src : Reg) (offset : BitVec 16) : Statement (.atomicAdd64 dst src offset) := rfl
theorem atomicFetchAdd64 (dst src : Reg) (offset : BitVec 16) : Statement (.atomicFetchAdd64 dst src offset) := rfl
theorem atomicOr64 (dst src : Reg) (offset : BitVec 16) : Statement (.atomicOr64 dst src offset) := rfl
theorem atomicFetchOr64 (dst src : Reg) (offset : BitVec 16) : Statement (.atomicFetchOr64 dst src offset) := rfl
theorem atomicAnd64 (dst src : Reg) (offset : BitVec 16) : Statement (.atomicAnd64 dst src offset) := rfl
theorem atomicFetchAnd64 (dst src : Reg) (offset : BitVec 16) : Statement (.atomicFetchAnd64 dst src offset) := rfl
theorem atomicXor64 (dst src : Reg) (offset : BitVec 16) : Statement (.atomicXor64 dst src offset) := rfl
theorem atomicFetchXor64 (dst src : Reg) (offset : BitVec 16) : Statement (.atomicFetchXor64 dst src offset) := rfl
theorem atomicXchg64 (dst src : Reg) (offset : BitVec 16) : Statement (.atomicXchg64 dst src offset) := rfl
theorem atomicCmpxchg64 (dst src : Reg) (offset : BitVec 16) : Statement (.atomicCmpxchg64 dst src offset) := rfl
theorem ldImm64 (dst : Reg) (imm nextImm : Word32) : Statement (.ldImm64 dst imm nextImm) := rfl
theorem ldMapFd (dst : Reg) (imm : Word32) : Statement (.ldMapFd dst imm) := rfl
theorem ldMapFdVal (dst : Reg) (imm nextImm : Word32) : Statement (.ldMapFdVal dst imm nextImm) := rfl
theorem ldVarAddr (dst : Reg) (imm : Word32) : Statement (.ldVarAddr dst imm) := rfl
theorem ldCodeAddr (dst : Reg) (imm : Word32) : Statement (.ldCodeAddr dst imm) := rfl
theorem ldMapIdx (dst : Reg) (imm : Word32) : Statement (.ldMapIdx dst imm) := rfl
theorem ldMapIdxVal (dst : Reg) (imm nextImm : Word32) : Statement (.ldMapIdxVal dst imm nextImm) := rfl
theorem ldAbsW (dst src : BitVec 4) (offset : BitVec 16) (imm : Word32) : Statement (.ldAbsW dst src offset imm) := rfl
theorem ldAbsH (dst src : BitVec 4) (offset : BitVec 16) (imm : Word32) : Statement (.ldAbsH dst src offset imm) := rfl
theorem ldAbsB (dst src : BitVec 4) (offset : BitVec 16) (imm : Word32) : Statement (.ldAbsB dst src offset imm) := rfl
theorem ldAbsDw (dst src : BitVec 4) (offset : BitVec 16) (imm : Word32) : Statement (.ldAbsDw dst src offset imm) := rfl
theorem ldIndW (dst src : BitVec 4) (offset : BitVec 16) (imm : Word32) : Statement (.ldIndW dst src offset imm) := rfl
theorem ldIndH (dst src : BitVec 4) (offset : BitVec 16) (imm : Word32) : Statement (.ldIndH dst src offset imm) := rfl
theorem ldIndB (dst src : BitVec 4) (offset : BitVec 16) (imm : Word32) : Statement (.ldIndB dst src offset imm) := rfl
theorem ldIndDw (dst src : BitVec 4) (offset : BitVec 16) (imm : Word32) : Statement (.ldIndDw dst src offset imm) := rfl

end Sys2Proof.Laws.WideByOpcode
end

