-- ==== Sys2Proof/Tests/Slice0.lean ====
section
/-! SUPPORT. Tests on fixed values. Bytes and results are those of the spec's test vectors (95_test_vectors.md,
96_test_vectors_alu.md, 97_test_vectors_jump.md) unless a comment says otherwise. The last part shows, for every statement
with hypotheses, a state and operands that meet them. -/

namespace Sys2Proof.Tests

open Sys2Proof Sys2Proof.Machine

/-! ## Helpers -/

/-- The slots that bytes at rising addresses make. -/
def slots : List Nat → List Slot
  | a :: b :: c :: d :: e :: f :: g :: h :: rest =>
    ⟨.ofNat 8 a, .ofNat 8 b, .ofNat 8 c, .ofNat 8 d, .ofNat 8 e, .ofNat 8 f, .ofNat 8 g, .ofNat 8 h⟩ :: slots rest
  | _ => []

/-- The bytes of the region of 95_test_vectors.md, section 6, from 0x1000. -/
def regionBytes : List Byte :=
  [0x88, 0x77, 0x66, 0x55, 0x44, 0x33, 0x22, 0x11, 0x80, 0xff, 0xfe, 0xff, 0xfd, 0xff, 0xff, 0x7f]

/-- The launch of the vectors: that region, the platform functions at the arguments the vectors use, with a region at each
address that `map_val` and `var_addr` give, and the helper `return x[1] + x[2]` at the arguments 40 and 2. It reads both
registers, and only register 1 where that is 0x1000. -/
def platform (e : Endian) (bytes : List Nat) : Params :=
  { Params.default with
    endian := e
    program := slots bytes
    regions := [⟨0x1000#64, 16, true, true, false⟩, ⟨0xa540#64, 64, true, true, true⟩, ⟨0xb050#64, 8, true, false, false⟩]
    helpers := [
      ⟨.byAddress, 7#32, [
        ⟨[(.r1, some 40#64), (.r2, some 2#64)], [], ⟨[.r1, .r2], .result (some 42#64) []⟩⟩,
        ⟨[(.r1, some 40#64), (.r2, none)], [], ⟨[.r1, .r2], .result none []⟩⟩,
        ⟨[(.r1, some 0x1000#64)], [], ⟨[.r1], .result (some 1#64) []⟩⟩]⟩,
      ⟨.byBtfId, 7#32, [⟨[], [], ⟨[.r1], .result none []⟩⟩]⟩]
    mapByFd := [(5#32, 0xa500#64)]
    mapByIdx := [(5#32, 0xa500#64)]
    mapVal := [(0xa500#64, 0xa540#64)]
    varAddr := [(5#32, 0xb050#64)]
    codeAddr := [(6, 0xc030#64)] }

/-- The register file in which only the listed registers hold values. -/
def holding (rs : List (Reg × Word)) : RegFile :=
  rs.foldl (fun f r => f.put r.1 (some r.2)) ⟨none, none, none, none, none, none, none, none, none, none, none⟩

/-- The state before a vector. -/
def start (e : Endian) (bytes : List Nat) (rs : List (Reg × Word)) : State :=
  State.launch (platform e bytes) (holding rs) ⟨(List.range 16).zip regionBytes |>.map fun c => (0x1000 + c.1, c.2)⟩

/-- One step from `start` leaves the listed registers (`none` for no value), `pc`, and the listed bytes from an address,
and the status running. -/
def runs (e : Endian) (bytes : List Nat) (before : List (Reg × Word)) (after : List (Reg × Option Word)) (pc : Int)
    (at' : Nat := 0) (mem : List Byte := []) : Bool :=
  match step (start e bytes before) with
  | .next t =>
    (after.all fun r => t.reg r.1 == r.2) && t.pc == pc && t.status == .running &&
      ((List.range mem.length).all fun k => t.mem.read (at' + k) == mem[k]?)
  | _ => false

/-- The first bytes decode, in little-endian BPF, to the instruction. -/
def decodes (bytes : List Nat) (i : Instr) : Bool :=
  match slots bytes with
  | a :: rest => (decode .little a rest.head?).toOption == some i
  | [] => false

/-- A state whose helper 1 writes the listed bytes and answers 0. -/
def withHelper (writes : List (Nat × Byte)) : State :=
  let s := start .little [] []
  { s with params := { s.params with helpers := [⟨.byAddress, 1#32, [⟨[], [], ⟨[], .result (some 0#64) writes⟩⟩]⟩] } }

/-! ## Ill-formed terms are refused -/

theorem test_frame_pointer_not_written_by_an_immediate_form : (Instr.add64Imm .r10 1).wf = false := by decide
theorem test_frame_pointer_not_written_by_a_register_form : (Instr.sub32Reg .r10 .r1).wf = false := by decide
theorem test_frame_pointer_not_written_by_negation : (Instr.neg64 .r10).wf = false := by decide
theorem test_frame_pointer_not_written_by_a_move_of_an_immediate : (Instr.mov32Imm .r10 1).wf = false := by decide
theorem test_frame_pointer_not_written_by_a_move_of_a_register : (Instr.mov64Reg .r10 .r1).wf = false := by decide
theorem test_frame_pointer_not_written_by_a_sign_extending_move : (Instr.movsx64From8 .r10 .r1).wf = false := by decide
theorem test_frame_pointer_not_written_by_a_byte_swap : (Instr.bswap32 .r10).wf = false := by decide
theorem test_frame_pointer_not_written_by_a_load : (Instr.ldxB .r10 .r1 0).wf = false := by decide
theorem test_frame_pointer_not_written_by_a_sign_extending_load : (Instr.ldxsxW .r10 .r1 0).wf = false := by decide
theorem test_frame_pointer_not_written_by_a_fetching_atomic : (Instr.atomicFetchAdd64 .r1 .r10 0).wf = false := by decide
theorem test_frame_pointer_not_written_by_an_exchange : (Instr.atomicXchg32 .r1 .r10 0).wf = false := by decide
theorem test_frame_pointer_not_written_by_a_wide_constant : (Instr.ldImm64 .r10 1 2).wf = false := by decide
theorem test_frame_pointer_not_written_by_a_platform_address : (Instr.ldMapFd .r10 5).wf = false := by decide

theorem test_frame_pointer_may_be_read : (Instr.stxDw .r10 .r10 0xfff8).wf = true ∧
    (Instr.jeq64Reg .r10 .r10 0).wf = true ∧ (Instr.atomicAdd64 .r10 .r10 0).wf = true ∧
    (Instr.atomicCmpxchg64 .r10 .r10 0).wf = true ∧ (Instr.mov64Reg .r9 .r10).wf = true := by decide

/-! ## Every constructor's word decodes to it. Where the vectors have no word (call_btf and seven of the legacy opcodes) it
is written from the tables of 30_encoding.md. -/

set_option maxRecDepth 20000

theorem test_decode_alu64 : (
    decodes [0x07, 0x01, 0x00, 0x00, 0x44, 0x33, 0x22, 0x11] (.add64Imm .r1 0x11223344) &&
    decodes [0x0f, 0x21, 0x00, 0x00, 0x00, 0x00, 0x00, 0x00] (.add64Reg .r1 .r2) &&
    decodes [0x17, 0x01, 0x00, 0x00, 0xff, 0xff, 0xff, 0xff] (.sub64Imm .r1 0xffffffff) &&
    decodes [0x1f, 0x21, 0x00, 0x00, 0x00, 0x00, 0x00, 0x00] (.sub64Reg .r1 .r2) &&
    decodes [0x27, 0x01, 0x00, 0x00, 0xff, 0xff, 0xff, 0xff] (.mul64Imm .r1 0xffffffff) &&
    decodes [0x2f, 0x21, 0x00, 0x00, 0x00, 0x00, 0x00, 0x00] (.mul64Reg .r1 .r2) &&
    decodes [0x37, 0x01, 0x00, 0x00, 0x00, 0x00, 0x00, 0x00] (.div64Imm .r1 0x0) &&
    decodes [0x3f, 0x21, 0x00, 0x00, 0x00, 0x00, 0x00, 0x00] (.div64Reg .r1 .r2) &&
    decodes [0x37, 0x01, 0x01, 0x00, 0x02, 0x00, 0x00, 0x00] (.sdiv64Imm .r1 0x2) &&
    decodes [0x3f, 0x21, 0x01, 0x00, 0x00, 0x00, 0x00, 0x00] (.sdiv64Reg .r1 .r2) &&
    decodes [0x47, 0x01, 0x00, 0x00, 0xff, 0xff, 0xff, 0xff] (.or64Imm .r1 0xffffffff) &&
    decodes [0x4f, 0x21, 0x00, 0x00, 0x00, 0x00, 0x00, 0x00] (.or64Reg .r1 .r2) &&
    decodes [0x57, 0x01, 0x00, 0x00, 0xff, 0xff, 0xff, 0xff] (.and64Imm .r1 0xffffffff) &&
    decodes [0x5f, 0x21, 0x00, 0x00, 0x00, 0x00, 0x00, 0x00] (.and64Reg .r1 .r2) &&
    decodes [0x67, 0x01, 0x00, 0x00, 0x3f, 0x00, 0x00, 0x00] (.lsh64Imm .r1 0x3f) &&
    decodes [0x6f, 0x21, 0x00, 0x00, 0x00, 0x00, 0x00, 0x00] (.lsh64Reg .r1 .r2) &&
    decodes [0x77, 0x01, 0x00, 0x00, 0x3f, 0x00, 0x00, 0x00] (.rsh64Imm .r1 0x3f) &&
    decodes [0x7f, 0x21, 0x00, 0x00, 0x00, 0x00, 0x00, 0x00] (.rsh64Reg .r1 .r2) &&
    decodes [0x87, 0x01, 0x00, 0x00, 0x00, 0x00, 0x00, 0x00] (.neg64 .r1) &&
    decodes [0x97, 0x01, 0x00, 0x00, 0x00, 0x00, 0x00, 0x00] (.mod64Imm .r1 0x0) &&
    decodes [0x9f, 0x21, 0x00, 0x00, 0x00, 0x00, 0x00, 0x00] (.mod64Reg .r1 .r2) &&
    decodes [0x97, 0x01, 0x01, 0x00, 0x03, 0x00, 0x00, 0x00] (.smod64Imm .r1 0x3) &&
    decodes [0x9f, 0x21, 0x01, 0x00, 0x00, 0x00, 0x00, 0x00] (.smod64Reg .r1 .r2) &&
    decodes [0xa7, 0x01, 0x00, 0x00, 0xff, 0xff, 0xff, 0xff] (.xor64Imm .r1 0xffffffff) &&
    decodes [0xaf, 0x21, 0x00, 0x00, 0x00, 0x00, 0x00, 0x00] (.xor64Reg .r1 .r2) &&
    decodes [0xb7, 0x01, 0x00, 0x00, 0xff, 0xff, 0xff, 0xff] (.mov64Imm .r1 0xffffffff) &&
    decodes [0xbf, 0x21, 0x00, 0x00, 0x00, 0x00, 0x00, 0x00] (.mov64Reg .r1 .r2) &&
    decodes [0xbf, 0x21, 0x08, 0x00, 0x00, 0x00, 0x00, 0x00] (.movsx64From8 .r1 .r2) &&
    decodes [0xbf, 0x21, 0x10, 0x00, 0x00, 0x00, 0x00, 0x00] (.movsx64From16 .r1 .r2) &&
    decodes [0xbf, 0x21, 0x20, 0x00, 0x00, 0x00, 0x00, 0x00] (.movsx64From32 .r1 .r2) &&
    decodes [0xc7, 0x01, 0x00, 0x00, 0x3f, 0x00, 0x00, 0x00] (.arsh64Imm .r1 0x3f) &&
    decodes [0xcf, 0x21, 0x00, 0x00, 0x00, 0x00, 0x00, 0x00] (.arsh64Reg .r1 .r2)) = true := by decide

theorem test_decode_alu32 : (
    decodes [0x04, 0x01, 0x00, 0x00, 0xff, 0xff, 0xff, 0xff] (.add32Imm .r1 0xffffffff) &&
    decodes [0x0c, 0x21, 0x00, 0x00, 0x00, 0x00, 0x00, 0x00] (.add32Reg .r1 .r2) &&
    decodes [0x14, 0x01, 0x00, 0x00, 0x01, 0x00, 0x00, 0x00] (.sub32Imm .r1 0x1) &&
    decodes [0x1c, 0x21, 0x00, 0x00, 0x00, 0x00, 0x00, 0x00] (.sub32Reg .r1 .r2) &&
    decodes [0x24, 0x01, 0x00, 0x00, 0xff, 0xff, 0xff, 0xff] (.mul32Imm .r1 0xffffffff) &&
    decodes [0x2c, 0x21, 0x00, 0x00, 0x00, 0x00, 0x00, 0x00] (.mul32Reg .r1 .r2) &&
    decodes [0x34, 0x01, 0x00, 0x00, 0x00, 0x00, 0x00, 0x00] (.div32Imm .r1 0x0) &&
    decodes [0x3c, 0x21, 0x00, 0x00, 0x00, 0x00, 0x00, 0x00] (.div32Reg .r1 .r2) &&
    decodes [0x34, 0x01, 0x01, 0x00, 0x02, 0x00, 0x00, 0x00] (.sdiv32Imm .r1 0x2) &&
    decodes [0x3c, 0x21, 0x01, 0x00, 0x00, 0x00, 0x00, 0x00] (.sdiv32Reg .r1 .r2) &&
    decodes [0x44, 0x01, 0x00, 0x00, 0xff, 0xff, 0xff, 0xff] (.or32Imm .r1 0xffffffff) &&
    decodes [0x4c, 0x21, 0x00, 0x00, 0x00, 0x00, 0x00, 0x00] (.or32Reg .r1 .r2) &&
    decodes [0x54, 0x01, 0x00, 0x00, 0xff, 0xff, 0xff, 0xff] (.and32Imm .r1 0xffffffff) &&
    decodes [0x5c, 0x21, 0x00, 0x00, 0x00, 0x00, 0x00, 0x00] (.and32Reg .r1 .r2) &&
    decodes [0x64, 0x01, 0x00, 0x00, 0x1f, 0x00, 0x00, 0x00] (.lsh32Imm .r1 0x1f) &&
    decodes [0x6c, 0x21, 0x00, 0x00, 0x00, 0x00, 0x00, 0x00] (.lsh32Reg .r1 .r2) &&
    decodes [0x74, 0x01, 0x00, 0x00, 0x1f, 0x00, 0x00, 0x00] (.rsh32Imm .r1 0x1f) &&
    decodes [0x7c, 0x21, 0x00, 0x00, 0x00, 0x00, 0x00, 0x00] (.rsh32Reg .r1 .r2) &&
    decodes [0x84, 0x01, 0x00, 0x00, 0x00, 0x00, 0x00, 0x00] (.neg32 .r1) &&
    decodes [0x94, 0x01, 0x00, 0x00, 0x00, 0x00, 0x00, 0x00] (.mod32Imm .r1 0x0) &&
    decodes [0x9c, 0x21, 0x00, 0x00, 0x00, 0x00, 0x00, 0x00] (.mod32Reg .r1 .r2) &&
    decodes [0x94, 0x01, 0x01, 0x00, 0x03, 0x00, 0x00, 0x00] (.smod32Imm .r1 0x3) &&
    decodes [0x9c, 0x21, 0x01, 0x00, 0x00, 0x00, 0x00, 0x00] (.smod32Reg .r1 .r2) &&
    decodes [0xa4, 0x01, 0x00, 0x00, 0xff, 0xff, 0xff, 0xff] (.xor32Imm .r1 0xffffffff) &&
    decodes [0xac, 0x21, 0x00, 0x00, 0x00, 0x00, 0x00, 0x00] (.xor32Reg .r1 .r2) &&
    decodes [0xb4, 0x01, 0x00, 0x00, 0xff, 0xff, 0xff, 0xff] (.mov32Imm .r1 0xffffffff) &&
    decodes [0xbc, 0x21, 0x00, 0x00, 0x00, 0x00, 0x00, 0x00] (.mov32Reg .r1 .r2) &&
    decodes [0xbc, 0x21, 0x08, 0x00, 0x00, 0x00, 0x00, 0x00] (.movsx32From8 .r1 .r2) &&
    decodes [0xbc, 0x21, 0x10, 0x00, 0x00, 0x00, 0x00, 0x00] (.movsx32From16 .r1 .r2) &&
    decodes [0xc4, 0x01, 0x00, 0x00, 0x1f, 0x00, 0x00, 0x00] (.arsh32Imm .r1 0x1f) &&
    decodes [0xcc, 0x21, 0x00, 0x00, 0x00, 0x00, 0x00, 0x00] (.arsh32Reg .r1 .r2)) = true := by decide

theorem test_decode_byteswap : (
    decodes [0xd4, 0x01, 0x00, 0x00, 0x10, 0x00, 0x00, 0x00] (.le16 .r1) &&
    decodes [0xd4, 0x01, 0x00, 0x00, 0x20, 0x00, 0x00, 0x00] (.le32 .r1) &&
    decodes [0xd4, 0x01, 0x00, 0x00, 0x40, 0x00, 0x00, 0x00] (.le64 .r1) &&
    decodes [0xdc, 0x01, 0x00, 0x00, 0x10, 0x00, 0x00, 0x00] (.be16 .r1) &&
    decodes [0xdc, 0x01, 0x00, 0x00, 0x20, 0x00, 0x00, 0x00] (.be32 .r1) &&
    decodes [0xdc, 0x01, 0x00, 0x00, 0x40, 0x00, 0x00, 0x00] (.be64 .r1) &&
    decodes [0xd7, 0x01, 0x00, 0x00, 0x10, 0x00, 0x00, 0x00] (.bswap16 .r1) &&
    decodes [0xd7, 0x01, 0x00, 0x00, 0x20, 0x00, 0x00, 0x00] (.bswap32 .r1) &&
    decodes [0xd7, 0x01, 0x00, 0x00, 0x40, 0x00, 0x00, 0x00] (.bswap64 .r1)) = true := by decide

theorem test_decode_jump64 : (
    decodes [0x05, 0x00, 0x03, 0x00, 0x00, 0x00, 0x00, 0x00] (.ja 0x3) &&
    decodes [0x15, 0x01, 0x03, 0x00, 0x05, 0x00, 0x00, 0x00] (.jeq64Imm .r1 0x5 0x3) &&
    decodes [0x1d, 0x21, 0x03, 0x00, 0x00, 0x00, 0x00, 0x00] (.jeq64Reg .r1 .r2 0x3) &&
    decodes [0x25, 0x01, 0x03, 0x00, 0x05, 0x00, 0x00, 0x00] (.jgt64Imm .r1 0x5 0x3) &&
    decodes [0x2d, 0x21, 0x03, 0x00, 0x00, 0x00, 0x00, 0x00] (.jgt64Reg .r1 .r2 0x3) &&
    decodes [0x35, 0x01, 0x03, 0x00, 0x05, 0x00, 0x00, 0x00] (.jge64Imm .r1 0x5 0x3) &&
    decodes [0x3d, 0x21, 0x03, 0x00, 0x00, 0x00, 0x00, 0x00] (.jge64Reg .r1 .r2 0x3) &&
    decodes [0x45, 0x01, 0x03, 0x00, 0x05, 0x00, 0x00, 0x00] (.jset64Imm .r1 0x5 0x3) &&
    decodes [0x4d, 0x21, 0x03, 0x00, 0x00, 0x00, 0x00, 0x00] (.jset64Reg .r1 .r2 0x3) &&
    decodes [0x55, 0x01, 0x03, 0x00, 0x05, 0x00, 0x00, 0x00] (.jne64Imm .r1 0x5 0x3) &&
    decodes [0x5d, 0x21, 0x03, 0x00, 0x00, 0x00, 0x00, 0x00] (.jne64Reg .r1 .r2 0x3) &&
    decodes [0x65, 0x01, 0x03, 0x00, 0x05, 0x00, 0x00, 0x00] (.jsgt64Imm .r1 0x5 0x3) &&
    decodes [0x6d, 0x21, 0x03, 0x00, 0x00, 0x00, 0x00, 0x00] (.jsgt64Reg .r1 .r2 0x3) &&
    decodes [0x75, 0x01, 0x03, 0x00, 0x05, 0x00, 0x00, 0x00] (.jsge64Imm .r1 0x5 0x3) &&
    decodes [0x7d, 0x21, 0x03, 0x00, 0x00, 0x00, 0x00, 0x00] (.jsge64Reg .r1 .r2 0x3) &&
    decodes [0xa5, 0x01, 0x03, 0x00, 0x05, 0x00, 0x00, 0x00] (.jlt64Imm .r1 0x5 0x3) &&
    decodes [0xad, 0x21, 0x03, 0x00, 0x00, 0x00, 0x00, 0x00] (.jlt64Reg .r1 .r2 0x3) &&
    decodes [0xb5, 0x01, 0x03, 0x00, 0x05, 0x00, 0x00, 0x00] (.jle64Imm .r1 0x5 0x3) &&
    decodes [0xbd, 0x21, 0x03, 0x00, 0x00, 0x00, 0x00, 0x00] (.jle64Reg .r1 .r2 0x3) &&
    decodes [0xc5, 0x01, 0x03, 0x00, 0x05, 0x00, 0x00, 0x00] (.jslt64Imm .r1 0x5 0x3) &&
    decodes [0xcd, 0x21, 0x03, 0x00, 0x00, 0x00, 0x00, 0x00] (.jslt64Reg .r1 .r2 0x3) &&
    decodes [0xd5, 0x01, 0x03, 0x00, 0x05, 0x00, 0x00, 0x00] (.jsle64Imm .r1 0x5 0x3) &&
    decodes [0xdd, 0x21, 0x03, 0x00, 0x00, 0x00, 0x00, 0x00] (.jsle64Reg .r1 .r2 0x3)) = true := by decide

theorem test_decode_jump32 : (
    decodes [0x06, 0x00, 0x00, 0x00, 0x70, 0x11, 0x01, 0x00] (.ja32 0x11170) &&
    decodes [0x16, 0x01, 0x03, 0x00, 0x05, 0x00, 0x00, 0x00] (.jeq32Imm .r1 0x5 0x3) &&
    decodes [0x1e, 0x21, 0x03, 0x00, 0x00, 0x00, 0x00, 0x00] (.jeq32Reg .r1 .r2 0x3) &&
    decodes [0x26, 0x01, 0x03, 0x00, 0x05, 0x00, 0x00, 0x00] (.jgt32Imm .r1 0x5 0x3) &&
    decodes [0x2e, 0x21, 0x03, 0x00, 0x00, 0x00, 0x00, 0x00] (.jgt32Reg .r1 .r2 0x3) &&
    decodes [0x36, 0x01, 0x03, 0x00, 0x05, 0x00, 0x00, 0x00] (.jge32Imm .r1 0x5 0x3) &&
    decodes [0x3e, 0x21, 0x03, 0x00, 0x00, 0x00, 0x00, 0x00] (.jge32Reg .r1 .r2 0x3) &&
    decodes [0x46, 0x01, 0x03, 0x00, 0x05, 0x00, 0x00, 0x00] (.jset32Imm .r1 0x5 0x3) &&
    decodes [0x4e, 0x21, 0x03, 0x00, 0x00, 0x00, 0x00, 0x00] (.jset32Reg .r1 .r2 0x3) &&
    decodes [0x56, 0x01, 0x03, 0x00, 0x05, 0x00, 0x00, 0x00] (.jne32Imm .r1 0x5 0x3) &&
    decodes [0x5e, 0x21, 0x03, 0x00, 0x00, 0x00, 0x00, 0x00] (.jne32Reg .r1 .r2 0x3) &&
    decodes [0x66, 0x01, 0x03, 0x00, 0x05, 0x00, 0x00, 0x00] (.jsgt32Imm .r1 0x5 0x3) &&
    decodes [0x6e, 0x21, 0x03, 0x00, 0x00, 0x00, 0x00, 0x00] (.jsgt32Reg .r1 .r2 0x3) &&
    decodes [0x76, 0x01, 0x03, 0x00, 0x05, 0x00, 0x00, 0x00] (.jsge32Imm .r1 0x5 0x3) &&
    decodes [0x7e, 0x21, 0x03, 0x00, 0x00, 0x00, 0x00, 0x00] (.jsge32Reg .r1 .r2 0x3) &&
    decodes [0xa6, 0x01, 0x03, 0x00, 0x05, 0x00, 0x00, 0x00] (.jlt32Imm .r1 0x5 0x3) &&
    decodes [0xae, 0x21, 0x03, 0x00, 0x00, 0x00, 0x00, 0x00] (.jlt32Reg .r1 .r2 0x3) &&
    decodes [0xb6, 0x01, 0x03, 0x00, 0x05, 0x00, 0x00, 0x00] (.jle32Imm .r1 0x5 0x3) &&
    decodes [0xbe, 0x21, 0x03, 0x00, 0x00, 0x00, 0x00, 0x00] (.jle32Reg .r1 .r2 0x3) &&
    decodes [0xc6, 0x01, 0x03, 0x00, 0x05, 0x00, 0x00, 0x00] (.jslt32Imm .r1 0x5 0x3) &&
    decodes [0xce, 0x21, 0x03, 0x00, 0x00, 0x00, 0x00, 0x00] (.jslt32Reg .r1 .r2 0x3) &&
    decodes [0xd6, 0x01, 0x03, 0x00, 0x05, 0x00, 0x00, 0x00] (.jsle32Imm .r1 0x5 0x3) &&
    decodes [0xde, 0x21, 0x03, 0x00, 0x00, 0x00, 0x00, 0x00] (.jsle32Reg .r1 .r2 0x3)) = true := by decide

theorem test_decode_callexit : (
    decodes [0x85, 0x00, 0x00, 0x00, 0x07, 0x00, 0x00, 0x00] (.callHelper 0x7) &&
    decodes [0x85, 0x10, 0x00, 0x00, 0x02, 0x00, 0x00, 0x00] (.callLocal 0x2) &&
    decodes [0x85, 0x20, 0x00, 0x00, 0x07, 0x00, 0x00, 0x00] (.callBtf 0x7) &&
    decodes [0x95, 0x00, 0x00, 0x00, 0x00, 0x00, 0x00, 0x00] (.exit)) = true := by decide

theorem test_decode_loadstore : (
    decodes [0x61, 0x21, 0x08, 0x00, 0x00, 0x00, 0x00, 0x00] (.ldxW .r1 .r2 0x8) &&
    decodes [0x69, 0x21, 0x08, 0x00, 0x00, 0x00, 0x00, 0x00] (.ldxH .r1 .r2 0x8) &&
    decodes [0x71, 0x21, 0x08, 0x00, 0x00, 0x00, 0x00, 0x00] (.ldxB .r1 .r2 0x8) &&
    decodes [0x79, 0x21, 0x00, 0x00, 0x00, 0x00, 0x00, 0x00] (.ldxDw .r1 .r2 0x0) &&
    decodes [0x62, 0x01, 0x08, 0x00, 0xfe, 0xff, 0xff, 0xff] (.stW .r1 0x8 0xfffffffe) &&
    decodes [0x6a, 0x01, 0x08, 0x00, 0xfe, 0xff, 0xff, 0xff] (.stH .r1 0x8 0xfffffffe) &&
    decodes [0x72, 0x01, 0x08, 0x00, 0xfe, 0xff, 0xff, 0xff] (.stB .r1 0x8 0xfffffffe) &&
    decodes [0x7a, 0x01, 0x08, 0x00, 0xfe, 0xff, 0xff, 0xff] (.stDw .r1 0x8 0xfffffffe) &&
    decodes [0x63, 0x21, 0x08, 0x00, 0x00, 0x00, 0x00, 0x00] (.stxW .r1 .r2 0x8) &&
    decodes [0x6b, 0x21, 0x08, 0x00, 0x00, 0x00, 0x00, 0x00] (.stxH .r1 .r2 0x8) &&
    decodes [0x73, 0x21, 0x08, 0x00, 0x00, 0x00, 0x00, 0x00] (.stxB .r1 .r2 0x8) &&
    decodes [0x7b, 0x21, 0x08, 0x00, 0x00, 0x00, 0x00, 0x00] (.stxDw .r1 .r2 0x8) &&
    decodes [0x81, 0x21, 0x08, 0x00, 0x00, 0x00, 0x00, 0x00] (.ldxsxW .r1 .r2 0x8) &&
    decodes [0x89, 0x21, 0x08, 0x00, 0x00, 0x00, 0x00, 0x00] (.ldxsxH .r1 .r2 0x8) &&
    decodes [0x91, 0x21, 0x08, 0x00, 0x00, 0x00, 0x00, 0x00] (.ldxsxB .r1 .r2 0x8)) = true := by decide

theorem test_decode_atomic : (
    decodes [0xc3, 0x21, 0x00, 0x00, 0x00, 0x00, 0x00, 0x00] (.atomicAdd32 .r1 .r2 0x0) &&
    decodes [0xc3, 0x21, 0x00, 0x00, 0x01, 0x00, 0x00, 0x00] (.atomicFetchAdd32 .r1 .r2 0x0) &&
    decodes [0xc3, 0x21, 0x00, 0x00, 0x40, 0x00, 0x00, 0x00] (.atomicOr32 .r1 .r2 0x0) &&
    decodes [0xc3, 0x21, 0x00, 0x00, 0x41, 0x00, 0x00, 0x00] (.atomicFetchOr32 .r1 .r2 0x0) &&
    decodes [0xc3, 0x21, 0x00, 0x00, 0x50, 0x00, 0x00, 0x00] (.atomicAnd32 .r1 .r2 0x0) &&
    decodes [0xc3, 0x21, 0x00, 0x00, 0x51, 0x00, 0x00, 0x00] (.atomicFetchAnd32 .r1 .r2 0x0) &&
    decodes [0xc3, 0x21, 0x00, 0x00, 0xa0, 0x00, 0x00, 0x00] (.atomicXor32 .r1 .r2 0x0) &&
    decodes [0xc3, 0x21, 0x00, 0x00, 0xa1, 0x00, 0x00, 0x00] (.atomicFetchXor32 .r1 .r2 0x0) &&
    decodes [0xc3, 0x21, 0x00, 0x00, 0xe1, 0x00, 0x00, 0x00] (.atomicXchg32 .r1 .r2 0x0) &&
    decodes [0xc3, 0x21, 0x00, 0x00, 0xf1, 0x00, 0x00, 0x00] (.atomicCmpxchg32 .r1 .r2 0x0) &&
    decodes [0xdb, 0x21, 0x00, 0x00, 0x00, 0x00, 0x00, 0x00] (.atomicAdd64 .r1 .r2 0x0) &&
    decodes [0xdb, 0x21, 0x00, 0x00, 0x01, 0x00, 0x00, 0x00] (.atomicFetchAdd64 .r1 .r2 0x0) &&
    decodes [0xdb, 0x21, 0x00, 0x00, 0x40, 0x00, 0x00, 0x00] (.atomicOr64 .r1 .r2 0x0) &&
    decodes [0xdb, 0x21, 0x00, 0x00, 0x41, 0x00, 0x00, 0x00] (.atomicFetchOr64 .r1 .r2 0x0) &&
    decodes [0xdb, 0x21, 0x00, 0x00, 0x50, 0x00, 0x00, 0x00] (.atomicAnd64 .r1 .r2 0x0) &&
    decodes [0xdb, 0x21, 0x00, 0x00, 0x51, 0x00, 0x00, 0x00] (.atomicFetchAnd64 .r1 .r2 0x0) &&
    decodes [0xdb, 0x21, 0x00, 0x00, 0xa0, 0x00, 0x00, 0x00] (.atomicXor64 .r1 .r2 0x0) &&
    decodes [0xdb, 0x21, 0x00, 0x00, 0xa1, 0x00, 0x00, 0x00] (.atomicFetchXor64 .r1 .r2 0x0) &&
    decodes [0xdb, 0x21, 0x00, 0x00, 0xe1, 0x00, 0x00, 0x00] (.atomicXchg64 .r1 .r2 0x0) &&
    decodes [0xdb, 0x21, 0x00, 0x00, 0xf1, 0x00, 0x00, 0x00] (.atomicCmpxchg64 .r1 .r2 0x0)) = true := by decide

theorem test_decode_imm64 : (
    decodes [0x18, 0x01, 0x00, 0x00, 0x11, 0x22, 0x33, 0x44, 0x00, 0x00, 0x00, 0x00, 0x55, 0x66, 0x77, 0x88] (.ldImm64 .r1 0x44332211 0x88776655) &&
    decodes [0x18, 0x11, 0x00, 0x00, 0x05, 0x00, 0x00, 0x00, 0x00, 0x00, 0x00, 0x00, 0x00, 0x00, 0x00, 0x00] (.ldMapFd .r1 0x5) &&
    decodes [0x18, 0x21, 0x00, 0x00, 0x05, 0x00, 0x00, 0x00, 0x00, 0x00, 0x00, 0x00, 0x20, 0x00, 0x00, 0x00] (.ldMapFdVal .r1 0x5 0x20) &&
    decodes [0x18, 0x31, 0x00, 0x00, 0x05, 0x00, 0x00, 0x00, 0x00, 0x00, 0x00, 0x00, 0x00, 0x00, 0x00, 0x00] (.ldVarAddr .r1 0x5) &&
    decodes [0x18, 0x41, 0x00, 0x00, 0x05, 0x00, 0x00, 0x00, 0x00, 0x00, 0x00, 0x00, 0x00, 0x00, 0x00, 0x00] (.ldCodeAddr .r1 0x5) &&
    decodes [0x18, 0x51, 0x00, 0x00, 0x05, 0x00, 0x00, 0x00, 0x00, 0x00, 0x00, 0x00, 0x00, 0x00, 0x00, 0x00] (.ldMapIdx .r1 0x5) &&
    decodes [0x18, 0x61, 0x00, 0x00, 0x05, 0x00, 0x00, 0x00, 0x00, 0x00, 0x00, 0x00, 0x20, 0x00, 0x00, 0x00] (.ldMapIdxVal .r1 0x5 0x20)) = true := by decide

theorem test_decode_legacy : (
    decodes [0x20, 0x21, 0x05, 0x00, 0x0e, 0x00, 0x00, 0x00] (.ldAbsW 1 2 0x5 0xe) &&
    decodes [0x28, 0x21, 0x05, 0x00, 0x0e, 0x00, 0x00, 0x00] (.ldAbsH 1 2 0x5 0xe) &&
    decodes [0x30, 0x21, 0x05, 0x00, 0x0e, 0x00, 0x00, 0x00] (.ldAbsB 1 2 0x5 0xe) &&
    decodes [0x38, 0x21, 0x05, 0x00, 0x0e, 0x00, 0x00, 0x00] (.ldAbsDw 1 2 0x5 0xe) &&
    decodes [0x40, 0x21, 0x05, 0x00, 0x0e, 0x00, 0x00, 0x00] (.ldIndW 1 2 0x5 0xe) &&
    decodes [0x48, 0x21, 0x05, 0x00, 0x0e, 0x00, 0x00, 0x00] (.ldIndH 1 2 0x5 0xe) &&
    decodes [0x50, 0x21, 0x05, 0x00, 0x0e, 0x00, 0x00, 0x00] (.ldIndB 1 2 0x5 0xe) &&
    decodes [0x58, 0x21, 0x05, 0x00, 0x0e, 0x00, 0x00, 0x00] (.ldIndDw 1 2 0x5 0xe)) = true := by decide

/-- Both byte orders of the source's own example (W3, W4). -/
theorem test_decode_source_example :
    (decode .little ⟨0x07, 0x01, 0x00, 0x00, 0x44, 0x33, 0x22, 0x11⟩ none).toOption = some (.add64Imm .r1 0x11223344) ∧
    (decode .big ⟨0x07, 0x10, 0x00, 0x00, 0x11, 0x22, 0x33, 0x44⟩ none).toOption = some (.add64Imm .r1 0x11223344) := by
  decide

/-- Words of spec/opcode_table.json, a wide one among them, through the host's entry. -/
theorem test_decode_table_word :
    decodeTableWord 64 0x0000000a00030115 = some (.jeq64Imm .r1 10 3) ∧
    decodeTableWord 128 0x55667788000000001122334400000118 = some (.ldImm64 .r1 0x11223344 0x55667788) ∧
    decodeTableWord 64 0x1122334400000118 = some (.ldImm64 .r1 0x11223344 0) := by decide

/-- An instruction placed at `pc` after reset is the one that runs. -/
theorem test_step_runs_placed_word :
    step (State.reset.withFetchWord 64 0x0000000700000107) =
      exec (.add64Imm .r1 7) (State.reset.withFetchWord 64 0x0000000700000107) := by rfl

/-! ## The vectors, at most two for each instruction -/

theorem test_vectors_add64 : (
    runs .little [0x07, 0x01, 0x00, 0x00, 0x44, 0x33, 0x22, 0x11] [(.r1, 0x1)] [(.r1, some 0x11223345)] 1 &&
    runs .little [0x07, 0x01, 0x00, 0x00, 0x00, 0x00, 0x00, 0x80] [(.r1, 0x0)] [(.r1, some 0xffffffff80000000)] 1 &&
    runs .little [0x0f, 0x21, 0x00, 0x00, 0x00, 0x00, 0x00, 0x00] [(.r1, 0xffffffffffffffff), (.r2, 0x1)] [(.r1, some 0x0)] 1 &&
    runs .little [0x0f, 0x11, 0x00, 0x00, 0x00, 0x00, 0x00, 0x00] [(.r1, 0x5)] [(.r1, some 0xa)] 1) = true := by decide

theorem test_vectors_sub64 : (
    runs .little [0x17, 0x01, 0x00, 0x00, 0xff, 0xff, 0xff, 0xff] [(.r1, 0x5)] [(.r1, some 0x6)] 1 &&
    runs .little [0x17, 0x01, 0x00, 0x00, 0x01, 0x00, 0x00, 0x00] [(.r1, 0x0)] [(.r1, some 0xffffffffffffffff)] 1 &&
    runs .little [0x1f, 0x21, 0x00, 0x00, 0x00, 0x00, 0x00, 0x00] [(.r1, 0x0), (.r2, 0x1)] [(.r1, some 0xffffffffffffffff)] 1 &&
    runs .little [0x1f, 0x11, 0x00, 0x00, 0x00, 0x00, 0x00, 0x00] [(.r1, 0x9)] [(.r1, some 0x0)] 1) = true := by decide

theorem test_vectors_mul64 : (
    runs .little [0x27, 0x01, 0x00, 0x00, 0xff, 0xff, 0xff, 0xff] [(.r1, 0x7)] [(.r1, some 0xfffffffffffffff9)] 1 &&
    runs .little [0x27, 0x01, 0x00, 0x00, 0x10, 0x00, 0x00, 0x00] [(.r1, 0x123456789)] [(.r1, some 0x1234567890)] 1 &&
    runs .little [0x2f, 0x21, 0x00, 0x00, 0x00, 0x00, 0x00, 0x00] [(.r1, 0xffffffffffffffff), (.r2, 0xffffffffffffffff)] [(.r1, some 0x1)] 1 &&
    runs .little [0x2f, 0x11, 0x00, 0x00, 0x00, 0x00, 0x00, 0x00] [(.r1, 0x3)] [(.r1, some 0x9)] 1) = true := by decide

theorem test_vectors_div64 : (
    runs .little [0x37, 0x01, 0x00, 0x00, 0x00, 0x00, 0x00, 0x00] [(.r1, 0x7)] [(.r1, some 0x0)] 1 &&
    runs .little [0x37, 0x01, 0x00, 0x00, 0x07, 0x00, 0x00, 0x00] [(.r1, 0x64)] [(.r1, some 0xe)] 1 &&
    runs .little [0x3f, 0x21, 0x00, 0x00, 0x00, 0x00, 0x00, 0x00] [(.r1, 0x7), (.r2, 0x2)] [(.r1, some 0x3)] 1 &&
    runs .little [0x3f, 0x11, 0x00, 0x00, 0x00, 0x00, 0x00, 0x00] [(.r1, 0x0)] [(.r1, some 0x0)] 1) = true := by decide

theorem test_vectors_sdiv64 : (
    runs .little [0x37, 0x01, 0x01, 0x00, 0x02, 0x00, 0x00, 0x00] [(.r1, 0xfffffffffffffff9)] [(.r1, some 0xfffffffffffffffd)] 1 &&
    runs .little [0x37, 0x01, 0x01, 0x00, 0x00, 0x00, 0x00, 0x00] [(.r1, 0x7)] [(.r1, some 0x0)] 1 &&
    runs .little [0x3f, 0x21, 0x01, 0x00, 0x00, 0x00, 0x00, 0x00] [(.r1, 0xfffffffffffffff9), (.r2, 0x2)] [(.r1, some 0xfffffffffffffffd)] 1 &&
    runs .little [0x3f, 0x21, 0x01, 0x00, 0x00, 0x00, 0x00, 0x00] [(.r1, 0x8000000000000000), (.r2, 0xffffffffffffffff)] [(.r1, some 0x8000000000000000)] 1) = true := by decide

theorem test_vectors_or64 : (
    runs .little [0x47, 0x01, 0x00, 0x00, 0xff, 0xff, 0xff, 0xff] [(.r1, 0x0)] [(.r1, some 0xffffffffffffffff)] 1 &&
    runs .little [0x47, 0x01, 0x00, 0x00, 0x01, 0x00, 0x00, 0x00] [(.r1, 0x100000000)] [(.r1, some 0x100000001)] 1 &&
    runs .little [0x4f, 0x21, 0x00, 0x00, 0x00, 0x00, 0x00, 0x00] [(.r1, 0xf0f0f0f0f0f0f0f0), (.r2, 0xf0f0f0f0f0f0f0f)] [(.r1, some 0xffffffffffffffff)] 1 &&
    runs .little [0x4f, 0x11, 0x00, 0x00, 0x00, 0x00, 0x00, 0x00] [(.r1, 0x1234)] [(.r1, some 0x1234)] 1) = true := by decide

theorem test_vectors_and64 : (
    runs .little [0x57, 0x01, 0x00, 0x00, 0xff, 0xff, 0xff, 0xff] [(.r1, 0x123456789abcdef0)] [(.r1, some 0x123456789abcdef0)] 1 &&
    runs .little [0x57, 0x01, 0x00, 0x00, 0x00, 0x00, 0x00, 0x80] [(.r1, 0x123456789abcdef0)] [(.r1, some 0x1234567880000000)] 1 &&
    runs .little [0x5f, 0x21, 0x00, 0x00, 0x00, 0x00, 0x00, 0x00] [(.r1, 0xffff0000ffff0000), (.r2, 0xff00ff00ff00ff0)] [(.r1, some 0xff000000ff00000)] 1 &&
    runs .little [0x5f, 0x11, 0x00, 0x00, 0x00, 0x00, 0x00, 0x00] [(.r1, 0x1234)] [(.r1, some 0x1234)] 1) = true := by decide

theorem test_vectors_lsh64 : (
    runs .little [0x67, 0x01, 0x00, 0x00, 0x3f, 0x00, 0x00, 0x00] [(.r1, 0x1)] [(.r1, some 0x8000000000000000)] 1 &&
    runs .little [0x67, 0x01, 0x00, 0x00, 0x04, 0x00, 0x00, 0x00] [(.r1, 0x123)] [(.r1, some 0x1230)] 1 &&
    runs .little [0x6f, 0x21, 0x00, 0x00, 0x00, 0x00, 0x00, 0x00] [(.r1, 0x1), (.r2, 0x3f)] [(.r1, some 0x8000000000000000)] 1 &&
    runs .little [0x6f, 0x11, 0x00, 0x00, 0x00, 0x00, 0x00, 0x00] [(.r1, 0x3)] [(.r1, some 0x18)] 1) = true := by decide

theorem test_vectors_rsh64 : (
    runs .little [0x77, 0x01, 0x00, 0x00, 0x3f, 0x00, 0x00, 0x00] [(.r1, 0x8000000000000000)] [(.r1, some 0x1)] 1 &&
    runs .little [0x77, 0x01, 0x00, 0x00, 0xff, 0xff, 0xff, 0xff] [(.r1, 0xffffffffffffffff)] [(.r1, some 0x1)] 1 &&
    runs .little [0x7f, 0x21, 0x00, 0x00, 0x00, 0x00, 0x00, 0x00] [(.r1, 0x8000000000000000), (.r2, 0x3f)] [(.r1, some 0x1)] 1 &&
    runs .little [0x7f, 0x11, 0x00, 0x00, 0x00, 0x00, 0x00, 0x00] [(.r1, 0x2)] [(.r1, some 0x0)] 1) = true := by decide

theorem test_vectors_neg64 : (
    runs .little [0x87, 0x01, 0x00, 0x00, 0x00, 0x00, 0x00, 0x00] [(.r1, 0x1)] [(.r1, some 0xffffffffffffffff)] 1 &&
    runs .little [0x87, 0x01, 0x00, 0x00, 0x00, 0x00, 0x00, 0x00] [(.r1, 0x8000000000000000)] [(.r1, some 0x8000000000000000)] 1) = true := by decide

theorem test_vectors_mod64 : (
    runs .little [0x97, 0x01, 0x00, 0x00, 0x00, 0x00, 0x00, 0x00] [(.r1, 0x7)] [(.r1, some 0x7)] 1 &&
    runs .little [0x97, 0x01, 0x00, 0x00, 0x07, 0x00, 0x00, 0x00] [(.r1, 0x64)] [(.r1, some 0x2)] 1 &&
    runs .little [0x9f, 0x21, 0x00, 0x00, 0x00, 0x00, 0x00, 0x00] [(.r1, 0x7), (.r2, 0x3)] [(.r1, some 0x1)] 1 &&
    runs .little [0x9f, 0x11, 0x00, 0x00, 0x00, 0x00, 0x00, 0x00] [(.r1, 0x0)] [(.r1, some 0x0)] 1) = true := by decide

theorem test_vectors_smod64 : (
    runs .little [0x97, 0x01, 0x01, 0x00, 0x03, 0x00, 0x00, 0x00] [(.r1, 0xfffffffffffffff3)] [(.r1, some 0xffffffffffffffff)] 1 &&
    runs .little [0x97, 0x01, 0x01, 0x00, 0x00, 0x00, 0x00, 0x00] [(.r1, 0xfffffffffffffff3)] [(.r1, some 0xfffffffffffffff3)] 1 &&
    runs .little [0x9f, 0x21, 0x01, 0x00, 0x00, 0x00, 0x00, 0x00] [(.r1, 0xfffffffffffffff3), (.r2, 0x3)] [(.r1, some 0xffffffffffffffff)] 1 &&
    runs .little [0x9f, 0x21, 0x01, 0x00, 0x00, 0x00, 0x00, 0x00] [(.r1, 0x8000000000000000), (.r2, 0xffffffffffffffff)] [(.r1, some 0x0)] 1) = true := by decide

theorem test_vectors_xor64 : (
    runs .little [0xa7, 0x01, 0x00, 0x00, 0xff, 0xff, 0xff, 0xff] [(.r1, 0x0)] [(.r1, some 0xffffffffffffffff)] 1 &&
    runs .little [0xa7, 0x01, 0x00, 0x00, 0xff, 0xff, 0x00, 0x00] [(.r1, 0x123456789abcdef0)] [(.r1, some 0x123456789abc210f)] 1 &&
    runs .little [0xaf, 0x21, 0x00, 0x00, 0x00, 0x00, 0x00, 0x00] [(.r1, 0xff00ff00ff00ff00), (.r2, 0xff00ff00ff00ff0)] [(.r1, some 0xf0f0f0f0f0f0f0f0)] 1 &&
    runs .little [0xaf, 0x11, 0x00, 0x00, 0x00, 0x00, 0x00, 0x00] [(.r1, 0x1234)] [(.r1, some 0x0)] 1) = true := by decide

theorem test_vectors_mov64 : (
    runs .little [0xb7, 0x01, 0x00, 0x00, 0xff, 0xff, 0xff, 0xff] [] [(.r1, some 0xffffffffffffffff)] 1 &&
    runs .little [0xb7, 0x01, 0x00, 0x00, 0x00, 0x00, 0x00, 0x80] [] [(.r1, some 0xffffffff80000000)] 1 &&
    runs .little [0xbf, 0x21, 0x00, 0x00, 0x00, 0x00, 0x00, 0x00] [(.r2, 0x123456789abcdef0)] [(.r1, some 0x123456789abcdef0)] 1 &&
    runs .little [0xbf, 0x11, 0x00, 0x00, 0x00, 0x00, 0x00, 0x00] [(.r1, 0x77)] [(.r1, some 0x77)] 1) = true := by decide

theorem test_vectors_movsx64 : (
    runs .little [0xbf, 0x21, 0x08, 0x00, 0x00, 0x00, 0x00, 0x00] [(.r2, 0x80)] [(.r1, some 0xffffffffffffff80)] 1 &&
    runs .little [0xbf, 0x21, 0x08, 0x00, 0x00, 0x00, 0x00, 0x00] [(.r2, 0xffffffffffffff7f)] [(.r1, some 0x7f)] 1 &&
    runs .little [0xbf, 0x21, 0x10, 0x00, 0x00, 0x00, 0x00, 0x00] [(.r2, 0x8000)] [(.r1, some 0xffffffffffff8000)] 1 &&
    runs .little [0xbf, 0x21, 0x10, 0x00, 0x00, 0x00, 0x00, 0x00] [(.r2, 0xffffffffffff7fff)] [(.r1, some 0x7fff)] 1 &&
    runs .little [0xbf, 0x21, 0x20, 0x00, 0x00, 0x00, 0x00, 0x00] [(.r2, 0x80000000)] [(.r1, some 0xffffffff80000000)] 1 &&
    runs .little [0xbf, 0x21, 0x20, 0x00, 0x00, 0x00, 0x00, 0x00] [(.r2, 0xffffffff7fffffff)] [(.r1, some 0x7fffffff)] 1) = true := by decide

theorem test_vectors_arsh64 : (
    runs .little [0xc7, 0x01, 0x00, 0x00, 0x3f, 0x00, 0x00, 0x00] [(.r1, 0x8000000000000000)] [(.r1, some 0xffffffffffffffff)] 1 &&
    runs .little [0xc7, 0x01, 0x00, 0x00, 0xff, 0xff, 0xff, 0xff] [(.r1, 0x8000000000000000)] [(.r1, some 0xffffffffffffffff)] 1 &&
    runs .little [0xcf, 0x21, 0x00, 0x00, 0x00, 0x00, 0x00, 0x00] [(.r1, 0x8000000000000000), (.r2, 0x3f)] [(.r1, some 0xffffffffffffffff)] 1 &&
    runs .little [0xcf, 0x21, 0x00, 0x00, 0x00, 0x00, 0x00, 0x00] [(.r1, 0xffffffffffffffff), (.r2, 0x1)] [(.r1, some 0xffffffffffffffff)] 1) = true := by decide

theorem test_vectors_add32 : (
    runs .little [0x04, 0x01, 0x00, 0x00, 0xff, 0xff, 0xff, 0xff] [(.r1, 0xaaaaaaaa00000005)] [(.r1, some 0x4)] 1 &&
    runs .little [0x04, 0x01, 0x00, 0x00, 0xff, 0xff, 0xff, 0x7f] [(.r1, 0x0)] [(.r1, some 0x7fffffff)] 1 &&
    runs .little [0x0c, 0x21, 0x00, 0x00, 0x00, 0x00, 0x00, 0x00] [(.r1, 0xaaaaaaaaffffffff), (.r2, 0x1)] [(.r1, some 0x0)] 1 &&
    runs .little [0x0c, 0x21, 0x00, 0x00, 0x00, 0x00, 0x00, 0x00] [(.r1, 0x1111111100000003), (.r2, 0x2222222200000004)] [(.r1, some 0x7)] 1) = true := by decide

theorem test_vectors_sub32 : (
    runs .little [0x14, 0x01, 0x00, 0x00, 0x01, 0x00, 0x00, 0x00] [(.r1, 0x0)] [(.r1, some 0xffffffff)] 1 &&
    runs .little [0x14, 0x01, 0x00, 0x00, 0xff, 0xff, 0xff, 0xff] [(.r1, 0x5)] [(.r1, some 0x6)] 1 &&
    runs .little [0x1c, 0x21, 0x00, 0x00, 0x00, 0x00, 0x00, 0x00] [(.r1, 0xaaaaaaaa00000000), (.r2, 0x1)] [(.r1, some 0xffffffff)] 1 &&
    runs .little [0x1c, 0x21, 0x00, 0x00, 0x00, 0x00, 0x00, 0x00] [(.r1, 0x500000003), (.r2, 0x5)] [(.r1, some 0xfffffffe)] 1) = true := by decide

theorem test_vectors_mul32 : (
    runs .little [0x24, 0x01, 0x00, 0x00, 0xff, 0xff, 0xff, 0xff] [(.r1, 0x7)] [(.r1, some 0xfffffff9)] 1 &&
    runs .little [0x24, 0x01, 0x00, 0x00, 0x02, 0x00, 0x00, 0x00] [(.r1, 0x80000000)] [(.r1, some 0x0)] 1 &&
    runs .little [0x2c, 0x21, 0x00, 0x00, 0x00, 0x00, 0x00, 0x00] [(.r1, 0xaaaaaaaaffffffff), (.r2, 0xffffffff)] [(.r1, some 0x1)] 1 &&
    runs .little [0x2c, 0x21, 0x00, 0x00, 0x00, 0x00, 0x00, 0x00] [(.r1, 0x10000), (.r2, 0x10000)] [(.r1, some 0x0)] 1) = true := by decide

theorem test_vectors_div32 : (
    runs .little [0x34, 0x01, 0x00, 0x00, 0x00, 0x00, 0x00, 0x00] [(.r1, 0x7)] [(.r1, some 0x0)] 1 &&
    runs .little [0x34, 0x01, 0x00, 0x00, 0x07, 0x00, 0x00, 0x00] [(.r1, 0xaaaaaaaa00000064)] [(.r1, some 0xe)] 1 &&
    runs .little [0x3c, 0x21, 0x00, 0x00, 0x00, 0x00, 0x00, 0x00] [(.r1, 0xaaaaaaaa00000007), (.r2, 0x2)] [(.r1, some 0x3)] 1 &&
    runs .little [0x3c, 0x21, 0x00, 0x00, 0x00, 0x00, 0x00, 0x00] [(.r1, 0x7), (.r2, 0x0)] [(.r1, some 0x0)] 1) = true := by decide

theorem test_vectors_sdiv32 : (
    runs .little [0x34, 0x01, 0x01, 0x00, 0x02, 0x00, 0x00, 0x00] [(.r1, 0xfffffff9)] [(.r1, some 0xfffffffd)] 1 &&
    runs .little [0x34, 0x01, 0x01, 0x00, 0x00, 0x00, 0x00, 0x00] [(.r1, 0x7)] [(.r1, some 0x0)] 1 &&
    runs .little [0x3c, 0x21, 0x01, 0x00, 0x00, 0x00, 0x00, 0x00] [(.r1, 0xaaaaaaaafffffff9), (.r2, 0x2)] [(.r1, some 0xfffffffd)] 1 &&
    runs .little [0x3c, 0x21, 0x01, 0x00, 0x00, 0x00, 0x00, 0x00] [(.r1, 0x7), (.r2, 0x100000000)] [(.r1, some 0x0)] 1) = true := by decide

theorem test_vectors_or32 : (
    runs .little [0x44, 0x01, 0x00, 0x00, 0xff, 0xff, 0xff, 0xff] [(.r1, 0xaaaaaaaa00000000)] [(.r1, some 0xffffffff)] 1 &&
    runs .little [0x4c, 0x21, 0x00, 0x00, 0x00, 0x00, 0x00, 0x00] [(.r1, 0xaaaaaaaa0000f0f0), (.r2, 0xbbbbbbbb00000f0f)] [(.r1, some 0xffff)] 1) = true := by decide

theorem test_vectors_and32 : (
    runs .little [0x54, 0x01, 0x00, 0x00, 0xff, 0xff, 0xff, 0xff] [(.r1, 0x123456789abcdef0)] [(.r1, some 0x9abcdef0)] 1 &&
    runs .little [0x5c, 0x21, 0x00, 0x00, 0x00, 0x00, 0x00, 0x00] [(.r1, 0xaaaaaaaaffff0000), (.r2, 0xbbbbbbbb0ff00ff0)] [(.r1, some 0xff00000)] 1) = true := by decide

theorem test_vectors_lsh32 : (
    runs .little [0x64, 0x01, 0x00, 0x00, 0x1f, 0x00, 0x00, 0x00] [(.r1, 0x1)] [(.r1, some 0x80000000)] 1 &&
    runs .little [0x64, 0x01, 0x00, 0x00, 0xff, 0xff, 0xff, 0xff] [(.r1, 0x1)] [(.r1, some 0x80000000)] 1 &&
    runs .little [0x6c, 0x21, 0x00, 0x00, 0x00, 0x00, 0x00, 0x00] [(.r1, 0xaaaaaaaa00000001), (.r2, 0x1f)] [(.r1, some 0x80000000)] 1 &&
    runs .little [0x6c, 0x21, 0x00, 0x00, 0x00, 0x00, 0x00, 0x00] [(.r1, 0x1), (.r2, 0x100000021)] [(.r1, some 0x2)] 1) = true := by decide

theorem test_vectors_rsh32 : (
    runs .little [0x74, 0x01, 0x00, 0x00, 0x1f, 0x00, 0x00, 0x00] [(.r1, 0x80000000)] [(.r1, some 0x1)] 1 &&
    runs .little [0x74, 0x01, 0x00, 0x00, 0x04, 0x00, 0x00, 0x00] [(.r1, 0xffffffffffffffff)] [(.r1, some 0xfffffff)] 1 &&
    runs .little [0x7c, 0x21, 0x00, 0x00, 0x00, 0x00, 0x00, 0x00] [(.r1, 0xaaaaaaaa80000000), (.r2, 0x1f)] [(.r1, some 0x1)] 1 &&
    runs .little [0x7c, 0x21, 0x00, 0x00, 0x00, 0x00, 0x00, 0x00] [(.r1, 0xffffffffffffffff), (.r2, 0x4)] [(.r1, some 0xfffffff)] 1) = true := by decide

theorem test_vectors_neg32 : (
    runs .little [0x84, 0x01, 0x00, 0x00, 0x00, 0x00, 0x00, 0x00] [(.r1, 0xaaaaaaaa00000001)] [(.r1, some 0xffffffff)] 1 &&
    runs .little [0x84, 0x01, 0x00, 0x00, 0x00, 0x00, 0x00, 0x00] [(.r1, 0x80000000)] [(.r1, some 0x80000000)] 1) = true := by decide

theorem test_vectors_mod32 : (
    runs .little [0x94, 0x01, 0x00, 0x00, 0x00, 0x00, 0x00, 0x00] [(.r1, 0xaaaaaaaa00000007)] [(.r1, some 0x7)] 1 &&
    runs .little [0x94, 0x01, 0x00, 0x00, 0x07, 0x00, 0x00, 0x00] [(.r1, 0x64)] [(.r1, some 0x2)] 1 &&
    runs .little [0x9c, 0x21, 0x00, 0x00, 0x00, 0x00, 0x00, 0x00] [(.r1, 0xaaaaaaaa00000007), (.r2, 0x3)] [(.r1, some 0x1)] 1 &&
    runs .little [0x9c, 0x21, 0x00, 0x00, 0x00, 0x00, 0x00, 0x00] [(.r1, 0x7), (.r2, 0x100000000)] [(.r1, some 0x7)] 1) = true := by decide

theorem test_vectors_smod32 : (
    runs .little [0x94, 0x01, 0x01, 0x00, 0x03, 0x00, 0x00, 0x00] [(.r1, 0xfffffff3)] [(.r1, some 0xffffffff)] 1 &&
    runs .little [0x94, 0x01, 0x01, 0x00, 0x00, 0x00, 0x00, 0x00] [(.r1, 0xaaaaaaaa00000007)] [(.r1, some 0x7)] 1 &&
    runs .little [0x9c, 0x21, 0x01, 0x00, 0x00, 0x00, 0x00, 0x00] [(.r1, 0xaaaaaaaafffffff3), (.r2, 0x3)] [(.r1, some 0xffffffff)] 1 &&
    runs .little [0x9c, 0x21, 0x01, 0x00, 0x00, 0x00, 0x00, 0x00] [(.r1, 0xaaaaaaaafffffff3), (.r2, 0x0)] [(.r1, some 0xfffffff3)] 1) = true := by decide

theorem test_vectors_xor32 : (
    runs .little [0xa4, 0x01, 0x00, 0x00, 0xff, 0xff, 0xff, 0xff] [(.r1, 0xaaaaaaaa00000000)] [(.r1, some 0xffffffff)] 1 &&
    runs .little [0xa4, 0x01, 0x00, 0x00, 0xff, 0xff, 0x00, 0x00] [(.r1, 0x12345678)] [(.r1, some 0x1234a987)] 1 &&
    runs .little [0xac, 0x21, 0x00, 0x00, 0x00, 0x00, 0x00, 0x00] [(.r1, 0xaaaaaaaaff00ff00), (.r2, 0xbbbbbbbb0ff00ff0)] [(.r1, some 0xf0f0f0f0)] 1) = true := by decide

theorem test_vectors_mov32 : (
    runs .little [0xb4, 0x01, 0x00, 0x00, 0xff, 0xff, 0xff, 0xff] [] [(.r1, some 0xffffffff)] 1 &&
    runs .little [0xb4, 0x01, 0x00, 0x00, 0x78, 0x56, 0x34, 0x12] [] [(.r1, some 0x12345678)] 1 &&
    runs .little [0xbc, 0x21, 0x00, 0x00, 0x00, 0x00, 0x00, 0x00] [(.r2, 0x123456789abcdef0)] [(.r1, some 0x9abcdef0)] 1 &&
    runs .little [0xbc, 0x11, 0x00, 0x00, 0x00, 0x00, 0x00, 0x00] [(.r1, 0xaaaaaaaa00000077)] [(.r1, some 0x77)] 1) = true := by decide

theorem test_vectors_movsx32 : (
    runs .little [0xbc, 0x21, 0x08, 0x00, 0x00, 0x00, 0x00, 0x00] [(.r2, 0x80)] [(.r1, some 0xffffff80)] 1 &&
    runs .little [0xbc, 0x21, 0x08, 0x00, 0x00, 0x00, 0x00, 0x00] [(.r2, 0xffffffffffffff7f)] [(.r1, some 0x7f)] 1 &&
    runs .little [0xbc, 0x21, 0x10, 0x00, 0x00, 0x00, 0x00, 0x00] [(.r2, 0x8000)] [(.r1, some 0xffff8000)] 1 &&
    runs .little [0xbc, 0x21, 0x10, 0x00, 0x00, 0x00, 0x00, 0x00] [(.r2, 0xffffffffffff7fff)] [(.r1, some 0x7fff)] 1) = true := by decide

theorem test_vectors_arsh32 : (
    runs .little [0xc4, 0x01, 0x00, 0x00, 0x1f, 0x00, 0x00, 0x00] [(.r1, 0x80000000)] [(.r1, some 0xffffffff)] 1 &&
    runs .little [0xc4, 0x01, 0x00, 0x00, 0x02, 0x00, 0x00, 0x00] [(.r1, 0xfffffff0)] [(.r1, some 0xfffffffc)] 1 &&
    runs .little [0xcc, 0x21, 0x00, 0x00, 0x00, 0x00, 0x00, 0x00] [(.r1, 0xaaaaaaaa80000000), (.r2, 0x1f)] [(.r1, some 0xffffffff)] 1 &&
    runs .little [0xcc, 0x21, 0x00, 0x00, 0x00, 0x00, 0x00, 0x00] [(.r1, 0xaaaaaaaa80000000), (.r2, 0x20)] [(.r1, some 0x80000000)] 1) = true := by decide

theorem test_vectors_byteswap : (
    runs .little [0xd4, 0x01, 0x00, 0x00, 0x10, 0x00, 0x00, 0x00] [(.r1, 0x1122334455667788)] [(.r1, some 0x7788)] 1 &&
    runs .big [0xd4, 0x10, 0x00, 0x00, 0x00, 0x00, 0x00, 0x10] [(.r1, 0x1122334455667788)] [(.r1, some 0x8877)] 1 &&
    runs .little [0xd4, 0x01, 0x00, 0x00, 0x20, 0x00, 0x00, 0x00] [(.r1, 0x1122334455667788)] [(.r1, some 0x55667788)] 1 &&
    runs .big [0xd4, 0x10, 0x00, 0x00, 0x00, 0x00, 0x00, 0x20] [(.r1, 0x1122334455667788)] [(.r1, some 0x88776655)] 1 &&
    runs .little [0xd4, 0x01, 0x00, 0x00, 0x40, 0x00, 0x00, 0x00] [(.r1, 0x1122334455667788)] [(.r1, some 0x1122334455667788)] 1 &&
    runs .big [0xd4, 0x10, 0x00, 0x00, 0x00, 0x00, 0x00, 0x40] [(.r1, 0x1122334455667788)] [(.r1, some 0x8877665544332211)] 1 &&
    runs .little [0xdc, 0x01, 0x00, 0x00, 0x10, 0x00, 0x00, 0x00] [(.r1, 0x1122334455667788)] [(.r1, some 0x8877)] 1 &&
    runs .big [0xdc, 0x10, 0x00, 0x00, 0x00, 0x00, 0x00, 0x10] [(.r1, 0x1122334455667788)] [(.r1, some 0x7788)] 1 &&
    runs .little [0xdc, 0x01, 0x00, 0x00, 0x20, 0x00, 0x00, 0x00] [(.r1, 0x1122334455667788)] [(.r1, some 0x88776655)] 1 &&
    runs .big [0xdc, 0x10, 0x00, 0x00, 0x00, 0x00, 0x00, 0x20] [(.r1, 0x1122334455667788)] [(.r1, some 0x55667788)] 1 &&
    runs .little [0xdc, 0x01, 0x00, 0x00, 0x40, 0x00, 0x00, 0x00] [(.r1, 0x1122334455667788)] [(.r1, some 0x8877665544332211)] 1 &&
    runs .big [0xdc, 0x10, 0x00, 0x00, 0x00, 0x00, 0x00, 0x40] [(.r1, 0x1122334455667788)] [(.r1, some 0x1122334455667788)] 1 &&
    runs .little [0xd7, 0x01, 0x00, 0x00, 0x10, 0x00, 0x00, 0x00] [(.r1, 0x1122334455667788)] [(.r1, some 0x8877)] 1 &&
    runs .big [0xd7, 0x10, 0x00, 0x00, 0x00, 0x00, 0x00, 0x10] [(.r1, 0x1122334455667788)] [(.r1, some 0x8877)] 1 &&
    runs .little [0xd7, 0x01, 0x00, 0x00, 0x20, 0x00, 0x00, 0x00] [(.r1, 0x1122334455667788)] [(.r1, some 0x88776655)] 1 &&
    runs .big [0xd7, 0x10, 0x00, 0x00, 0x00, 0x00, 0x00, 0x20] [(.r1, 0x1122334455667788)] [(.r1, some 0x88776655)] 1 &&
    runs .little [0xd7, 0x01, 0x00, 0x00, 0x40, 0x00, 0x00, 0x00] [(.r1, 0x1122334455667788)] [(.r1, some 0x8877665544332211)] 1 &&
    runs .big [0xd7, 0x10, 0x00, 0x00, 0x00, 0x00, 0x00, 0x40] [(.r1, 0x1122334455667788)] [(.r1, some 0x8877665544332211)] 1) = true := by decide

theorem test_vectors_ja : (
    runs .little [0x05, 0x00, 0x03, 0x00, 0x00, 0x00, 0x00, 0x00] [] [] 4 &&
    runs .little [0x05, 0x00, 0xff, 0xff, 0x00, 0x00, 0x00, 0x00] [] [] 0) = true := by decide

theorem test_vectors_jeq64 : (
    runs .little [0x15, 0x01, 0x03, 0x00, 0x05, 0x00, 0x00, 0x00] [(.r1, 0x5)] [] 4 &&
    runs .little [0x15, 0x01, 0x03, 0x00, 0x80, 0x00, 0x00, 0x00] [(.r1, 0x80)] [] 4 &&
    runs .little [0x1d, 0x21, 0x03, 0x00, 0x00, 0x00, 0x00, 0x00] [(.r1, 0x5), (.r2, 0x5)] [] 4 &&
    runs .little [0x1d, 0x21, 0x03, 0x00, 0x00, 0x00, 0x00, 0x00] [(.r1, 0x100000000), (.r2, 0x0)] [] 1) = true := by decide

theorem test_vectors_jgt64 : (
    runs .little [0x25, 0x01, 0x03, 0x00, 0x05, 0x00, 0x00, 0x00] [(.r1, 0x5)] [] 1 &&
    runs .little [0x25, 0x01, 0x03, 0x00, 0x80, 0x00, 0x00, 0x00] [(.r1, 0x80)] [] 1 &&
    runs .little [0x2d, 0x21, 0x03, 0x00, 0x00, 0x00, 0x00, 0x00] [(.r1, 0x5), (.r2, 0x5)] [] 1 &&
    runs .little [0x2d, 0x21, 0x03, 0x00, 0x00, 0x00, 0x00, 0x00] [(.r1, 0x100000000), (.r2, 0x0)] [] 4) = true := by decide

theorem test_vectors_jge64 : (
    runs .little [0x35, 0x01, 0x03, 0x00, 0x05, 0x00, 0x00, 0x00] [(.r1, 0x5)] [] 4 &&
    runs .little [0x35, 0x01, 0x03, 0x00, 0x80, 0x00, 0x00, 0x00] [(.r1, 0x80)] [] 4 &&
    runs .little [0x3d, 0x21, 0x03, 0x00, 0x00, 0x00, 0x00, 0x00] [(.r1, 0x5), (.r2, 0x5)] [] 4 &&
    runs .little [0x3d, 0x21, 0x03, 0x00, 0x00, 0x00, 0x00, 0x00] [(.r1, 0x100000000), (.r2, 0x0)] [] 4) = true := by decide

theorem test_vectors_jset64 : (
    runs .little [0x45, 0x01, 0x03, 0x00, 0x05, 0x00, 0x00, 0x00] [(.r1, 0x5)] [] 4 &&
    runs .little [0x45, 0x01, 0x03, 0x00, 0x80, 0x00, 0x00, 0x00] [(.r1, 0x80)] [] 4 &&
    runs .little [0x4d, 0x21, 0x03, 0x00, 0x00, 0x00, 0x00, 0x00] [(.r1, 0x5), (.r2, 0x5)] [] 4 &&
    runs .little [0x4d, 0x21, 0x03, 0x00, 0x00, 0x00, 0x00, 0x00] [(.r1, 0x100000000), (.r2, 0x0)] [] 1) = true := by decide

theorem test_vectors_jne64 : (
    runs .little [0x55, 0x01, 0x03, 0x00, 0x05, 0x00, 0x00, 0x00] [(.r1, 0x5)] [] 1 &&
    runs .little [0x55, 0x01, 0x03, 0x00, 0x80, 0x00, 0x00, 0x00] [(.r1, 0x80)] [] 1 &&
    runs .little [0x5d, 0x21, 0x03, 0x00, 0x00, 0x00, 0x00, 0x00] [(.r1, 0x5), (.r2, 0x5)] [] 1 &&
    runs .little [0x5d, 0x21, 0x03, 0x00, 0x00, 0x00, 0x00, 0x00] [(.r1, 0x100000000), (.r2, 0x0)] [] 4) = true := by decide

theorem test_vectors_jsgt64 : (
    runs .little [0x65, 0x01, 0x03, 0x00, 0x05, 0x00, 0x00, 0x00] [(.r1, 0x5)] [] 1 &&
    runs .little [0x65, 0x01, 0x03, 0x00, 0x80, 0x00, 0x00, 0x00] [(.r1, 0x80)] [] 1 &&
    runs .little [0x6d, 0x21, 0x03, 0x00, 0x00, 0x00, 0x00, 0x00] [(.r1, 0x5), (.r2, 0x5)] [] 1 &&
    runs .little [0x6d, 0x21, 0x03, 0x00, 0x00, 0x00, 0x00, 0x00] [(.r1, 0x100000000), (.r2, 0x0)] [] 4) = true := by decide

theorem test_vectors_jsge64 : (
    runs .little [0x75, 0x01, 0x03, 0x00, 0x05, 0x00, 0x00, 0x00] [(.r1, 0x5)] [] 4 &&
    runs .little [0x75, 0x01, 0x03, 0x00, 0x80, 0x00, 0x00, 0x00] [(.r1, 0x80)] [] 4 &&
    runs .little [0x7d, 0x21, 0x03, 0x00, 0x00, 0x00, 0x00, 0x00] [(.r1, 0x5), (.r2, 0x5)] [] 4 &&
    runs .little [0x7d, 0x21, 0x03, 0x00, 0x00, 0x00, 0x00, 0x00] [(.r1, 0x100000000), (.r2, 0x0)] [] 4) = true := by decide

theorem test_vectors_jlt64 : (
    runs .little [0xa5, 0x01, 0x03, 0x00, 0x05, 0x00, 0x00, 0x00] [(.r1, 0x5)] [] 1 &&
    runs .little [0xa5, 0x01, 0x03, 0x00, 0x80, 0x00, 0x00, 0x00] [(.r1, 0x80)] [] 1 &&
    runs .little [0xad, 0x21, 0x03, 0x00, 0x00, 0x00, 0x00, 0x00] [(.r1, 0x5), (.r2, 0x5)] [] 1 &&
    runs .little [0xad, 0x21, 0x03, 0x00, 0x00, 0x00, 0x00, 0x00] [(.r1, 0x100000000), (.r2, 0x0)] [] 1) = true := by decide

theorem test_vectors_jle64 : (
    runs .little [0xb5, 0x01, 0x03, 0x00, 0x05, 0x00, 0x00, 0x00] [(.r1, 0x5)] [] 4 &&
    runs .little [0xb5, 0x01, 0x03, 0x00, 0x80, 0x00, 0x00, 0x00] [(.r1, 0x80)] [] 4 &&
    runs .little [0xbd, 0x21, 0x03, 0x00, 0x00, 0x00, 0x00, 0x00] [(.r1, 0x5), (.r2, 0x5)] [] 4 &&
    runs .little [0xbd, 0x21, 0x03, 0x00, 0x00, 0x00, 0x00, 0x00] [(.r1, 0x100000000), (.r2, 0x0)] [] 1) = true := by decide

theorem test_vectors_jslt64 : (
    runs .little [0xc5, 0x01, 0x03, 0x00, 0x05, 0x00, 0x00, 0x00] [(.r1, 0x5)] [] 1 &&
    runs .little [0xc5, 0x01, 0x03, 0x00, 0x80, 0x00, 0x00, 0x00] [(.r1, 0x80)] [] 1 &&
    runs .little [0xcd, 0x21, 0x03, 0x00, 0x00, 0x00, 0x00, 0x00] [(.r1, 0x5), (.r2, 0x5)] [] 1 &&
    runs .little [0xcd, 0x21, 0x03, 0x00, 0x00, 0x00, 0x00, 0x00] [(.r1, 0x100000000), (.r2, 0x0)] [] 1) = true := by decide

theorem test_vectors_jsle64 : (
    runs .little [0xd5, 0x01, 0x03, 0x00, 0x05, 0x00, 0x00, 0x00] [(.r1, 0x5)] [] 4 &&
    runs .little [0xd5, 0x01, 0x03, 0x00, 0x80, 0x00, 0x00, 0x00] [(.r1, 0x80)] [] 4 &&
    runs .little [0xdd, 0x21, 0x03, 0x00, 0x00, 0x00, 0x00, 0x00] [(.r1, 0x5), (.r2, 0x5)] [] 4 &&
    runs .little [0xdd, 0x21, 0x03, 0x00, 0x00, 0x00, 0x00, 0x00] [(.r1, 0x100000000), (.r2, 0x0)] [] 1) = true := by decide

theorem test_vectors_ja32 : (
    runs .little [0x06, 0x00, 0x00, 0x00, 0x70, 0x11, 0x01, 0x00] [] [] 70001 &&
    runs .little [0x06, 0x00, 0x00, 0x00, 0xff, 0xff, 0xff, 0xff] [] [] 0) = true := by decide

theorem test_vectors_jeq32 : (
    runs .little [0x16, 0x01, 0x03, 0x00, 0x05, 0x00, 0x00, 0x00] [(.r1, 0x5)] [] 4 &&
    runs .little [0x16, 0x01, 0x03, 0x00, 0x80, 0x00, 0x00, 0x00] [(.r1, 0x1234567800000080)] [] 4 &&
    runs .little [0x1e, 0x21, 0x03, 0x00, 0x00, 0x00, 0x00, 0x00] [(.r1, 0x5), (.r2, 0x5)] [] 4 &&
    runs .little [0x1e, 0x21, 0x03, 0x00, 0x00, 0x00, 0x00, 0x00] [(.r1, 0x100000000), (.r2, 0x0)] [] 4) = true := by decide

theorem test_vectors_jgt32 : (
    runs .little [0x26, 0x01, 0x03, 0x00, 0x05, 0x00, 0x00, 0x00] [(.r1, 0x5)] [] 1 &&
    runs .little [0x26, 0x01, 0x03, 0x00, 0x80, 0x00, 0x00, 0x00] [(.r1, 0x1234567800000080)] [] 1 &&
    runs .little [0x2e, 0x21, 0x03, 0x00, 0x00, 0x00, 0x00, 0x00] [(.r1, 0x5), (.r2, 0x5)] [] 1 &&
    runs .little [0x2e, 0x21, 0x03, 0x00, 0x00, 0x00, 0x00, 0x00] [(.r1, 0x100000000), (.r2, 0x0)] [] 1) = true := by decide

theorem test_vectors_jge32 : (
    runs .little [0x36, 0x01, 0x03, 0x00, 0x05, 0x00, 0x00, 0x00] [(.r1, 0x5)] [] 4 &&
    runs .little [0x36, 0x01, 0x03, 0x00, 0x80, 0x00, 0x00, 0x00] [(.r1, 0x1234567800000080)] [] 4 &&
    runs .little [0x3e, 0x21, 0x03, 0x00, 0x00, 0x00, 0x00, 0x00] [(.r1, 0x5), (.r2, 0x5)] [] 4 &&
    runs .little [0x3e, 0x21, 0x03, 0x00, 0x00, 0x00, 0x00, 0x00] [(.r1, 0x100000000), (.r2, 0x0)] [] 4) = true := by decide

theorem test_vectors_jset32 : (
    runs .little [0x46, 0x01, 0x03, 0x00, 0x05, 0x00, 0x00, 0x00] [(.r1, 0x5)] [] 4 &&
    runs .little [0x46, 0x01, 0x03, 0x00, 0x80, 0x00, 0x00, 0x00] [(.r1, 0x1234567800000080)] [] 4 &&
    runs .little [0x4e, 0x21, 0x03, 0x00, 0x00, 0x00, 0x00, 0x00] [(.r1, 0x5), (.r2, 0x5)] [] 4 &&
    runs .little [0x4e, 0x21, 0x03, 0x00, 0x00, 0x00, 0x00, 0x00] [(.r1, 0x100000000), (.r2, 0x0)] [] 1) = true := by decide

theorem test_vectors_jne32 : (
    runs .little [0x56, 0x01, 0x03, 0x00, 0x05, 0x00, 0x00, 0x00] [(.r1, 0x5)] [] 1 &&
    runs .little [0x56, 0x01, 0x03, 0x00, 0x80, 0x00, 0x00, 0x00] [(.r1, 0x1234567800000080)] [] 1 &&
    runs .little [0x5e, 0x21, 0x03, 0x00, 0x00, 0x00, 0x00, 0x00] [(.r1, 0x5), (.r2, 0x5)] [] 1 &&
    runs .little [0x5e, 0x21, 0x03, 0x00, 0x00, 0x00, 0x00, 0x00] [(.r1, 0x100000000), (.r2, 0x0)] [] 1) = true := by decide

theorem test_vectors_jsgt32 : (
    runs .little [0x66, 0x01, 0x03, 0x00, 0x05, 0x00, 0x00, 0x00] [(.r1, 0x5)] [] 1 &&
    runs .little [0x66, 0x01, 0x03, 0x00, 0x80, 0x00, 0x00, 0x00] [(.r1, 0x1234567800000080)] [] 1 &&
    runs .little [0x6e, 0x21, 0x03, 0x00, 0x00, 0x00, 0x00, 0x00] [(.r1, 0x5), (.r2, 0x5)] [] 1 &&
    runs .little [0x6e, 0x21, 0x03, 0x00, 0x00, 0x00, 0x00, 0x00] [(.r1, 0x100000000), (.r2, 0x0)] [] 1) = true := by decide

theorem test_vectors_jsge32 : (
    runs .little [0x76, 0x01, 0x03, 0x00, 0x05, 0x00, 0x00, 0x00] [(.r1, 0x5)] [] 4 &&
    runs .little [0x76, 0x01, 0x03, 0x00, 0x80, 0x00, 0x00, 0x00] [(.r1, 0x1234567800000080)] [] 4 &&
    runs .little [0x7e, 0x21, 0x03, 0x00, 0x00, 0x00, 0x00, 0x00] [(.r1, 0x5), (.r2, 0x5)] [] 4 &&
    runs .little [0x7e, 0x21, 0x03, 0x00, 0x00, 0x00, 0x00, 0x00] [(.r1, 0x100000000), (.r2, 0x0)] [] 4) = true := by decide

theorem test_vectors_jlt32 : (
    runs .little [0xa6, 0x01, 0x03, 0x00, 0x05, 0x00, 0x00, 0x00] [(.r1, 0x5)] [] 1 &&
    runs .little [0xa6, 0x01, 0x03, 0x00, 0x80, 0x00, 0x00, 0x00] [(.r1, 0x1234567800000080)] [] 1 &&
    runs .little [0xae, 0x21, 0x03, 0x00, 0x00, 0x00, 0x00, 0x00] [(.r1, 0x5), (.r2, 0x5)] [] 1 &&
    runs .little [0xae, 0x21, 0x03, 0x00, 0x00, 0x00, 0x00, 0x00] [(.r1, 0x100000000), (.r2, 0x0)] [] 1) = true := by decide

theorem test_vectors_jle32 : (
    runs .little [0xb6, 0x01, 0x03, 0x00, 0x05, 0x00, 0x00, 0x00] [(.r1, 0x5)] [] 4 &&
    runs .little [0xb6, 0x01, 0x03, 0x00, 0x80, 0x00, 0x00, 0x00] [(.r1, 0x1234567800000080)] [] 4 &&
    runs .little [0xbe, 0x21, 0x03, 0x00, 0x00, 0x00, 0x00, 0x00] [(.r1, 0x5), (.r2, 0x5)] [] 4 &&
    runs .little [0xbe, 0x21, 0x03, 0x00, 0x00, 0x00, 0x00, 0x00] [(.r1, 0x100000000), (.r2, 0x0)] [] 4) = true := by decide

theorem test_vectors_jslt32 : (
    runs .little [0xc6, 0x01, 0x03, 0x00, 0x05, 0x00, 0x00, 0x00] [(.r1, 0x5)] [] 1 &&
    runs .little [0xc6, 0x01, 0x03, 0x00, 0x80, 0x00, 0x00, 0x00] [(.r1, 0x1234567800000080)] [] 1 &&
    runs .little [0xce, 0x21, 0x03, 0x00, 0x00, 0x00, 0x00, 0x00] [(.r1, 0x5), (.r2, 0x5)] [] 1 &&
    runs .little [0xce, 0x21, 0x03, 0x00, 0x00, 0x00, 0x00, 0x00] [(.r1, 0x100000000), (.r2, 0x0)] [] 1) = true := by decide

theorem test_vectors_jsle32 : (
    runs .little [0xd6, 0x01, 0x03, 0x00, 0x05, 0x00, 0x00, 0x00] [(.r1, 0x5)] [] 4 &&
    runs .little [0xd6, 0x01, 0x03, 0x00, 0x80, 0x00, 0x00, 0x00] [(.r1, 0x1234567800000080)] [] 4 &&
    runs .little [0xde, 0x21, 0x03, 0x00, 0x00, 0x00, 0x00, 0x00] [(.r1, 0x5), (.r2, 0x5)] [] 4 &&
    runs .little [0xde, 0x21, 0x03, 0x00, 0x00, 0x00, 0x00, 0x00] [(.r1, 0x100000000), (.r2, 0x0)] [] 4) = true := by decide

theorem test_vectors_callexit : (
    runs .little [0x85, 0x00, 0x00, 0x00, 0x07, 0x00, 0x00, 0x00] [(.r1, 0x28), (.r2, 0x2), (.r6, 0x66), (.r10, 0x2000)] [(.r0, some 0x2a), (.r1, none), (.r2, none), (.r6, some 0x66), (.r10, some 0x2000)] 1 &&
    runs .little [0x85, 0x10, 0x00, 0x00, 0x02, 0x00, 0x00, 0x00] [(.r0, 0xaa), (.r1, 0xb), (.r6, 0x66), (.r10, 0x2000)] [(.r0, none), (.r1, some 0xb), (.r6, none), (.r10, some 0x1e00)] 3) = true := by decide

theorem test_vectors_ldx : (
    runs .little [0x61, 0x21, 0x08, 0x00, 0x00, 0x00, 0x00, 0x00] [(.r2, 0x1000)] [(.r1, some 0xfffeff80)] 1 &&
    runs .big [0x61, 0x12, 0x00, 0x08, 0x00, 0x00, 0x00, 0x00] [(.r2, 0x1000)] [(.r1, some 0x80fffeff)] 1 &&
    runs .little [0x69, 0x21, 0x08, 0x00, 0x00, 0x00, 0x00, 0x00] [(.r2, 0x1000)] [(.r1, some 0xff80)] 1 &&
    runs .big [0x69, 0x12, 0x00, 0x08, 0x00, 0x00, 0x00, 0x00] [(.r2, 0x1000)] [(.r1, some 0x80ff)] 1 &&
    runs .little [0x71, 0x21, 0x08, 0x00, 0x00, 0x00, 0x00, 0x00] [(.r2, 0x1000)] [(.r1, some 0x80)] 1 &&
    runs .big [0x71, 0x12, 0x00, 0x08, 0x00, 0x00, 0x00, 0x00] [(.r2, 0x1000)] [(.r1, some 0x80)] 1 &&
    runs .little [0x79, 0x21, 0x00, 0x00, 0x00, 0x00, 0x00, 0x00] [(.r2, 0x1000)] [(.r1, some 0x1122334455667788)] 1 &&
    runs .big [0x79, 0x12, 0x00, 0x00, 0x00, 0x00, 0x00, 0x00] [(.r2, 0x1000)] [(.r1, some 0x8877665544332211)] 1) = true := by decide

theorem test_vectors_ldxsx : (
    runs .little [0x81, 0x21, 0x08, 0x00, 0x00, 0x00, 0x00, 0x00] [(.r2, 0x1000)] [(.r1, some 0xfffffffffffeff80)] 1 &&
    runs .big [0x81, 0x12, 0x00, 0x08, 0x00, 0x00, 0x00, 0x00] [(.r2, 0x1000)] [(.r1, some 0xffffffff80fffeff)] 1 &&
    runs .little [0x89, 0x21, 0x08, 0x00, 0x00, 0x00, 0x00, 0x00] [(.r2, 0x1000)] [(.r1, some 0xffffffffffffff80)] 1 &&
    runs .big [0x89, 0x12, 0x00, 0x08, 0x00, 0x00, 0x00, 0x00] [(.r2, 0x1000)] [(.r1, some 0xffffffffffff80ff)] 1 &&
    runs .little [0x91, 0x21, 0x08, 0x00, 0x00, 0x00, 0x00, 0x00] [(.r2, 0x1000)] [(.r1, some 0xffffffffffffff80)] 1 &&
    runs .big [0x91, 0x12, 0x00, 0x08, 0x00, 0x00, 0x00, 0x00] [(.r2, 0x1000)] [(.r1, some 0xffffffffffffff80)] 1) = true := by decide

theorem test_vectors_st : (
    runs .little [0x62, 0x01, 0x08, 0x00, 0xfe, 0xff, 0xff, 0xff] [(.r1, 0x1000)] [] 1 0x1008 [0xfe, 0xff, 0xff, 0xff, 0xfd, 0xff, 0xff, 0x7f] &&
    runs .big [0x62, 0x10, 0x00, 0x08, 0xff, 0xff, 0xff, 0xfe] [(.r1, 0x1000)] [] 1 0x1008 [0xff, 0xff, 0xff, 0xfe, 0xfd, 0xff, 0xff, 0x7f] &&
    runs .little [0x6a, 0x01, 0x08, 0x00, 0xfe, 0xff, 0xff, 0xff] [(.r1, 0x1000)] [] 1 0x1008 [0xfe, 0xff, 0xfe, 0xff, 0xfd, 0xff, 0xff, 0x7f] &&
    runs .big [0x6a, 0x10, 0x00, 0x08, 0xff, 0xff, 0xff, 0xfe] [(.r1, 0x1000)] [] 1 0x1008 [0xff, 0xfe, 0xfe, 0xff, 0xfd, 0xff, 0xff, 0x7f] &&
    runs .little [0x72, 0x01, 0x08, 0x00, 0xfe, 0xff, 0xff, 0xff] [(.r1, 0x1000)] [] 1 0x1008 [0xfe, 0xff, 0xfe, 0xff, 0xfd, 0xff, 0xff, 0x7f] &&
    runs .big [0x72, 0x10, 0x00, 0x08, 0xff, 0xff, 0xff, 0xfe] [(.r1, 0x1000)] [] 1 0x1008 [0xfe, 0xff, 0xfe, 0xff, 0xfd, 0xff, 0xff, 0x7f] &&
    runs .little [0x7a, 0x01, 0x08, 0x00, 0xfe, 0xff, 0xff, 0xff] [(.r1, 0x1000)] [] 1 0x1008 [0xfe, 0xff, 0xff, 0xff, 0xff, 0xff, 0xff, 0xff] &&
    runs .big [0x7a, 0x10, 0x00, 0x08, 0xff, 0xff, 0xff, 0xfe] [(.r1, 0x1000)] [] 1 0x1008 [0xff, 0xff, 0xff, 0xff, 0xff, 0xff, 0xff, 0xfe]) = true := by decide

theorem test_vectors_stx : (
    runs .little [0x63, 0x21, 0x08, 0x00, 0x00, 0x00, 0x00, 0x00] [(.r1, 0x1000), (.r2, 0xa1b2c3d4e5f60718)] [] 1 0x1008 [0x18, 0x07, 0xf6, 0xe5, 0xfd, 0xff, 0xff, 0x7f] &&
    runs .big [0x63, 0x12, 0x00, 0x08, 0x00, 0x00, 0x00, 0x00] [(.r1, 0x1000), (.r2, 0xa1b2c3d4e5f60718)] [] 1 0x1008 [0xe5, 0xf6, 0x07, 0x18, 0xfd, 0xff, 0xff, 0x7f] &&
    runs .little [0x6b, 0x21, 0x08, 0x00, 0x00, 0x00, 0x00, 0x00] [(.r1, 0x1000), (.r2, 0xa1b2c3d4e5f60718)] [] 1 0x1008 [0x18, 0x07, 0xfe, 0xff, 0xfd, 0xff, 0xff, 0x7f] &&
    runs .big [0x6b, 0x12, 0x00, 0x08, 0x00, 0x00, 0x00, 0x00] [(.r1, 0x1000), (.r2, 0xa1b2c3d4e5f60718)] [] 1 0x1008 [0x07, 0x18, 0xfe, 0xff, 0xfd, 0xff, 0xff, 0x7f] &&
    runs .little [0x73, 0x21, 0x08, 0x00, 0x00, 0x00, 0x00, 0x00] [(.r1, 0x1000), (.r2, 0xa1b2c3d4e5f60718)] [] 1 0x1008 [0x18, 0xff, 0xfe, 0xff, 0xfd, 0xff, 0xff, 0x7f] &&
    runs .big [0x73, 0x12, 0x00, 0x08, 0x00, 0x00, 0x00, 0x00] [(.r1, 0x1000), (.r2, 0xa1b2c3d4e5f60718)] [] 1 0x1008 [0x18, 0xff, 0xfe, 0xff, 0xfd, 0xff, 0xff, 0x7f] &&
    runs .little [0x7b, 0x21, 0x08, 0x00, 0x00, 0x00, 0x00, 0x00] [(.r1, 0x1000), (.r2, 0xa1b2c3d4e5f60718)] [] 1 0x1008 [0x18, 0x07, 0xf6, 0xe5, 0xd4, 0xc3, 0xb2, 0xa1] &&
    runs .big [0x7b, 0x12, 0x00, 0x08, 0x00, 0x00, 0x00, 0x00] [(.r1, 0x1000), (.r2, 0xa1b2c3d4e5f60718)] [] 1 0x1008 [0xa1, 0xb2, 0xc3, 0xd4, 0xe5, 0xf6, 0x07, 0x18]) = true := by decide

theorem test_vectors_atomic32 : (
    runs .little [0xc3, 0x21, 0x00, 0x00, 0x00, 0x00, 0x00, 0x00] [(.r1, 0x1000), (.r2, 0xffffffff00000001)] [] 1 0x1000 [0x89, 0x77, 0x66, 0x55] &&
    runs .little [0xc3, 0x21, 0x00, 0x00, 0x01, 0x00, 0x00, 0x00] [(.r1, 0x1000), (.r2, 0xffffffff00000001)] [(.r2, some 0x55667788)] 1 0x1000 [0x89, 0x77, 0x66, 0x55] &&
    runs .little [0xc3, 0x21, 0x00, 0x00, 0x40, 0x00, 0x00, 0x00] [(.r1, 0x1000), (.r2, 0xffffffff00000001)] [] 1 0x1000 [0x89, 0x77, 0x66, 0x55] &&
    runs .little [0xc3, 0x21, 0x00, 0x00, 0x41, 0x00, 0x00, 0x00] [(.r1, 0x1000), (.r2, 0xffffffff00000001)] [(.r2, some 0x55667788)] 1 0x1000 [0x89, 0x77, 0x66, 0x55] &&
    runs .little [0xc3, 0x21, 0x00, 0x00, 0x50, 0x00, 0x00, 0x00] [(.r1, 0x1000), (.r2, 0xffffffff00000001)] [] 1 0x1000 [0x00, 0x00, 0x00, 0x00] &&
    runs .little [0xc3, 0x21, 0x00, 0x00, 0x51, 0x00, 0x00, 0x00] [(.r1, 0x1000), (.r2, 0xffffffff00000001)] [(.r2, some 0x55667788)] 1 0x1000 [0x00, 0x00, 0x00, 0x00] &&
    runs .little [0xc3, 0x21, 0x00, 0x00, 0xa0, 0x00, 0x00, 0x00] [(.r1, 0x1000), (.r2, 0xffffffff00000001)] [] 1 0x1000 [0x89, 0x77, 0x66, 0x55] &&
    runs .little [0xc3, 0x21, 0x00, 0x00, 0xa1, 0x00, 0x00, 0x00] [(.r1, 0x1000), (.r2, 0xffffffff00000001)] [(.r2, some 0x55667788)] 1 0x1000 [0x89, 0x77, 0x66, 0x55] &&
    runs .little [0xc3, 0x21, 0x00, 0x00, 0xe1, 0x00, 0x00, 0x00] [(.r1, 0x1000), (.r2, 0xffffffff00000001)] [(.r2, some 0x55667788)] 1 0x1000 [0x01, 0x00, 0x00, 0x00] &&
    runs .little [0xc3, 0x21, 0x00, 0x00, 0xf1, 0x00, 0x00, 0x00] [(.r0, 0xdeadbeef55667788), (.r1, 0x1000), (.r2, 0xffffffff00000001)] [(.r0, some 0x55667788)] 1 0x1000 [0x01, 0x00, 0x00, 0x00] &&
    runs .little [0xc3, 0x21, 0x00, 0x00, 0xf1, 0x00, 0x00, 0x00] [(.r0, 0x5), (.r1, 0x1000), (.r2, 0xffffffff00000001)] [(.r0, some 0x55667788)] 1 0x1000 [0x88, 0x77, 0x66, 0x55]) = true := by decide

theorem test_vectors_atomic64 : (
    runs .little [0xdb, 0x21, 0x00, 0x00, 0x00, 0x00, 0x00, 0x00] [(.r1, 0x1000), (.r2, 0xf000000000000001)] [] 1 0x1000 [0x89, 0x77, 0x66, 0x55, 0x44, 0x33, 0x22, 0x01] &&
    runs .little [0xdb, 0x21, 0x00, 0x00, 0x01, 0x00, 0x00, 0x00] [(.r1, 0x1000), (.r2, 0xf000000000000001)] [(.r2, some 0x1122334455667788)] 1 0x1000 [0x89, 0x77, 0x66, 0x55, 0x44, 0x33, 0x22, 0x01] &&
    runs .little [0xdb, 0x21, 0x00, 0x00, 0x40, 0x00, 0x00, 0x00] [(.r1, 0x1000), (.r2, 0xf000000000000001)] [] 1 0x1000 [0x89, 0x77, 0x66, 0x55, 0x44, 0x33, 0x22, 0xf1] &&
    runs .little [0xdb, 0x21, 0x00, 0x00, 0x41, 0x00, 0x00, 0x00] [(.r1, 0x1000), (.r2, 0xf000000000000001)] [(.r2, some 0x1122334455667788)] 1 0x1000 [0x89, 0x77, 0x66, 0x55, 0x44, 0x33, 0x22, 0xf1] &&
    runs .little [0xdb, 0x21, 0x00, 0x00, 0x50, 0x00, 0x00, 0x00] [(.r1, 0x1000), (.r2, 0xf000000000000001)] [] 1 0x1000 [0x00, 0x00, 0x00, 0x00, 0x00, 0x00, 0x00, 0x10] &&
    runs .little [0xdb, 0x21, 0x00, 0x00, 0x51, 0x00, 0x00, 0x00] [(.r1, 0x1000), (.r2, 0xf000000000000001)] [(.r2, some 0x1122334455667788)] 1 0x1000 [0x00, 0x00, 0x00, 0x00, 0x00, 0x00, 0x00, 0x10] &&
    runs .little [0xdb, 0x21, 0x00, 0x00, 0xa0, 0x00, 0x00, 0x00] [(.r1, 0x1000), (.r2, 0xf000000000000001)] [] 1 0x1000 [0x89, 0x77, 0x66, 0x55, 0x44, 0x33, 0x22, 0xe1] &&
    runs .little [0xdb, 0x21, 0x00, 0x00, 0xa1, 0x00, 0x00, 0x00] [(.r1, 0x1000), (.r2, 0xf000000000000001)] [(.r2, some 0x1122334455667788)] 1 0x1000 [0x89, 0x77, 0x66, 0x55, 0x44, 0x33, 0x22, 0xe1] &&
    runs .little [0xdb, 0x21, 0x00, 0x00, 0xe1, 0x00, 0x00, 0x00] [(.r1, 0x1000), (.r2, 0xf000000000000001)] [(.r2, some 0x1122334455667788)] 1 0x1000 [0x01, 0x00, 0x00, 0x00, 0x00, 0x00, 0x00, 0xf0] &&
    runs .little [0xdb, 0x21, 0x00, 0x00, 0xf1, 0x00, 0x00, 0x00] [(.r0, 0x1122334455667788), (.r1, 0x1000), (.r2, 0xf000000000000001)] [(.r0, some 0x1122334455667788)] 1 0x1000 [0x01, 0x00, 0x00, 0x00, 0x00, 0x00, 0x00, 0xf0] &&
    runs .little [0xdb, 0x21, 0x00, 0x00, 0xf1, 0x00, 0x00, 0x00] [(.r0, 0x5), (.r1, 0x1000), (.r2, 0xf000000000000001)] [(.r0, some 0x1122334455667788)] 1 0x1000 [0x88, 0x77, 0x66, 0x55, 0x44, 0x33, 0x22, 0x11]) = true := by decide

theorem test_vectors_imm64 : (
    runs .little [0x18, 0x01, 0x00, 0x00, 0x11, 0x22, 0x33, 0x44, 0x00, 0x00, 0x00, 0x00, 0x55, 0x66, 0x77, 0x88] [] [(.r1, some 0x8877665544332211)] 2 &&
    runs .little [0x18, 0x11, 0x00, 0x00, 0x05, 0x00, 0x00, 0x00, 0x00, 0x00, 0x00, 0x00, 0x00, 0x00, 0x00, 0x00] [] [(.r1, some 0xa500)] 2 &&
    runs .little [0x18, 0x21, 0x00, 0x00, 0x05, 0x00, 0x00, 0x00, 0x00, 0x00, 0x00, 0x00, 0x20, 0x00, 0x00, 0x00] [] [(.r1, some 0xa560)] 2 &&
    runs .little [0x18, 0x31, 0x00, 0x00, 0x05, 0x00, 0x00, 0x00, 0x00, 0x00, 0x00, 0x00, 0x00, 0x00, 0x00, 0x00] [] [(.r1, some 0xb050)] 2 &&
    runs .little [0x18, 0x41, 0x00, 0x00, 0x05, 0x00, 0x00, 0x00, 0x00, 0x00, 0x00, 0x00, 0x00, 0x00, 0x00, 0x00] [] [(.r1, some 0xc030)] 2 &&
    runs .little [0x18, 0x51, 0x00, 0x00, 0x05, 0x00, 0x00, 0x00, 0x00, 0x00, 0x00, 0x00, 0x00, 0x00, 0x00, 0x00] [] [(.r1, some 0xa500)] 2 &&
    runs .little [0x18, 0x61, 0x00, 0x00, 0x05, 0x00, 0x00, 0x00, 0x00, 0x00, 0x00, 0x00, 0x20, 0x00, 0x00, 0x00] [] [(.r1, some 0xa560)] 2) = true := by decide

/-- Cit3, Cit4: exit at the top level, and the return from a program-local function. -/
theorem test_vectors_exit :
    ((start .little [0x95, 0, 0, 0, 0, 0, 0, 0] [(.r0, 42)]).advance.status = .exited 42) ∧
    ((start .little [0x85, 0x10, 0, 0, 1, 0, 0, 0, 0x95, 0, 0, 0, 0, 0, 0, 0, 0xb7, 0, 0, 0, 9, 0, 0, 0,
      0x95, 0, 0, 0, 0, 0, 0, 0] [(.r1, 5), (.r6, 0x66), (.r10, 0x2000)]).run 3).regs =
      ⟨some 9, none, none, none, none, none, some 0x66, none, none, none, some 0x2000⟩ := by decide

/-- `call_btf` (R408): a helper that leaves register 0 without a value. -/
theorem test_call_btf : runs .little [0x85, 0x20, 0, 0, 7, 0, 0, 0] [(.r1, 1), (.r7, 3)]
    [(.r0, none), (.r1, none), (.r7, some 3)] 1 = true := by decide

/-- A helper whose reads depend on what the registers hold (R403): with 0x1000 in register 1 it does not read register 2. -/
theorem test_helper_reads :
    (runs .little [0x85, 0, 0, 0, 7, 0, 0, 0] [(.r1, 0x1000)] [(.r0, some 1), (.r1, none)] 1 = true) ∧
    exec (.callHelper 7) (start .little [] [(.r1, 40)]) = .fault (.unwrittenRegister .r2) := ⟨by decide, rfl⟩

/-- A helper relation may ask what memory holds (R403): of two cases that differ in one byte, the one the call meets. -/
theorem test_helper_sees_memory :
    let s := start .little [] []
    let h : Helper := ⟨.byAddress, 1#32, [⟨[], [(0x1000, some 0x77)], ⟨[], .result (some 1#64) []⟩⟩,
      ⟨[], [(0x1000, some 0x88)], ⟨[], .result (some 2#64) []⟩⟩]⟩
    s.helperReply h = ⟨[], .result (some 2#64) []⟩ := by decide

/-- Eight slots, a map whose first value is at `m`, and a variable at `v`. -/
def addresses (m v : Word) : Params :=
  { platform .little (List.replicate 64 0) with mapVal := [(0xa500#64, m)], varAddr := [(5#32, v)] }

/-- What the spec asks of parameters holds where those addresses are bases of regions, of a shared one for the map (R521,
R522), and not otherwise. -/
theorem test_parameters : (addresses 0xa540 0x1000).wf ∧ ¬ (addresses 0xa540 0xb051).wf ∧
    ¬ (addresses 0xb050 0xb050).wf :=
  ⟨⟨by decide, by decide, by decide, by decide, fun c h => by rw [List.mem_singleton.mp h]; decide,
    fun c h => by rw [List.mem_singleton.mp h]; decide⟩, fun h => absurd (h.2.2.2.2.2 _ (.head _)) (by decide),
    fun h => absurd (h.2.2.2.2.1 _ (.head _)) (by decide)⟩

/-- A helper writes memory before the call completes (R403); one that may not write faults. -/
theorem test_helper_writes :
    (exec (.callHelper 1) (withHelper [(0x1003, 9)]) = .next { withHelper [(0x1003, 9)] with
      regs := holding [(.r0, 0)], mem := (withHelper []).mem.write 0x1003 9, calls := 1, pc := 1 }) ∧
    exec (.callHelper 1) (withHelper [(0x1003, 9), (0x1010, 9)]) = 
      .fault (.memFault 0x1010 1 .write) :=
  ⟨rfl, rfl⟩

/-! ## Faults (vectors X1 to X26) -/

/-- The first step of a launch with the vectors' parameters, changed by `f`. -/
def firstStep (bytes : List Nat) (rs : List (Reg × Word)) (f : Params → Params := id) : Result :=
  let s := start .little bytes rs
  step { s with params := f s.params }

theorem test_illegal_encodings :
    firstStep [0x07, 0x21, 0x00, 0x00, 0x01, 0x00, 0x00, 0x00] [(.r1, 0x0)] = .fault (.illegalEncoding 0 (slots [0x07, 0x21, 0x00, 0x00, 0x01, 0x00, 0x00, 0x00]).head? (.unusedField .srcReg)) ∧
    firstStep [0x07, 0x0a, 0x00, 0x00, 0x01, 0x00, 0x00, 0x00] [(.r10, 0x2000)] = .fault (.illegalEncoding 0 (slots [0x07, 0x0a, 0x00, 0x00, 0x01, 0x00, 0x00, 0x00]).head? (.writesFramePointer)) ∧
    firstStep [0x0f, 0xb1, 0x00, 0x00, 0x00, 0x00, 0x00, 0x00] [(.r1, 0x0)] = .fault (.illegalEncoding 0 (slots [0x0f, 0xb1, 0x00, 0x00, 0x00, 0x00, 0x00, 0x00]).head? (.noSuchRegister .srcReg 11)) ∧
    firstStep [0xe7, 0x01, 0x00, 0x00, 0x00, 0x00, 0x00, 0x00] [(.r1, 0x0)] = .fault (.illegalEncoding 0 (slots [0xe7, 0x01, 0x00, 0x00, 0x00, 0x00, 0x00, 0x00]).head? (.undefinedOpcode 0xe7)) ∧
    firstStep [0xbc, 0x21, 0x20, 0x00, 0x00, 0x00, 0x00, 0x00] [(.r1, 0x0), (.r2, 0x0)] = .fault (.illegalEncoding 0 (slots [0xbc, 0x21, 0x20, 0x00, 0x00, 0x00, 0x00, 0x00]).head? (.undefinedOffset 32)) ∧
    firstStep [0xd4, 0x01, 0x00, 0x00, 0x08, 0x00, 0x00, 0x00] [(.r1, 0x0)] = .fault (.illegalEncoding 0 (slots [0xd4, 0x01, 0x00, 0x00, 0x08, 0x00, 0x00, 0x00]).head? (.undefinedImm 8)) ∧
    firstStep [0xdf, 0x01, 0x00, 0x00, 0x10, 0x00, 0x00, 0x00] [(.r1, 0x0)] = .fault (.illegalEncoding 0 (slots [0xdf, 0x01, 0x00, 0x00, 0x10, 0x00, 0x00, 0x00]).head? (.undefinedOpcode 0xdf)) ∧
    firstStep [0x85, 0x30, 0x00, 0x00, 0x00, 0x00, 0x00, 0x00] [] = .fault (.illegalEncoding 0 (slots [0x85, 0x30, 0x00, 0x00, 0x00, 0x00, 0x00, 0x00]).head? (.undefinedSource 3)) ∧
    firstStep [0xdb, 0x21, 0x00, 0x00, 0xe0, 0x00, 0x00, 0x00] [(.r1, 0x1000), (.r2, 0x0)] = .fault (.illegalEncoding 0 (slots [0xdb, 0x21, 0x00, 0x00, 0xe0, 0x00, 0x00, 0x00]).head? (.undefinedImm 0xe0)) ∧
    firstStep [0xcb, 0x21, 0x00, 0x00, 0x00, 0x00, 0x00, 0x00] [(.r1, 0x1000), (.r2, 0x0)] = .fault (.illegalEncoding 0 (slots [0xcb, 0x21, 0x00, 0x00, 0x00, 0x00, 0x00, 0x00]).head? (.undefinedOpcode 0xcb)) ∧
    firstStep [0x18, 0x01, 0x00, 0x00, 0x05, 0x00, 0x00, 0x00] [] = .fault (.illegalEncoding 0 (slots [0x18, 0x01, 0x00, 0x00, 0x05, 0x00, 0x00, 0x00]).head? (.missingSecondSlot)) ∧
    firstStep [0x18, 0x01, 0x00, 0x00, 0x05, 0x00, 0x00, 0x00, 0x00, 0x00, 0x01, 0x00, 0x00, 0x00, 0x00, 0x00] [] = .fault (.illegalEncoding 0 (slots [0x18, 0x01, 0x00, 0x00, 0x05, 0x00, 0x00, 0x00, 0x00, 0x00, 0x01, 0x00, 0x00, 0x00, 0x00, 0x00]).head? (.dirtySecondSlot)) ∧
    firstStep [0x00, 0x00, 0x00, 0x00, 0x00, 0x00, 0x00, 0x00] [] = .fault (.illegalEncoding 0 (slots [0x00, 0x00, 0x00, 0x00, 0x00, 0x00, 0x00, 0x00]).head? (.undefinedOpcode 0)) :=
  ⟨rfl, rfl, rfl, rfl, rfl, rfl, rfl, rfl, rfl, rfl, rfl, rfl, rfl⟩

theorem test_faults_of_registers_and_pc :
    firstStep [0x20, 0x00, 0x00, 0x00, 0x0e, 0x00, 0x00, 0x00] [] = .fault (.unmodelled 0x20) ∧
    firstStep [0x0f, 0x21, 0x00, 0x00, 0x00, 0x00, 0x00, 0x00] [(.r1, 0x5)] = .fault (.unwrittenRegister .r2) ∧
    firstStep [0x95, 0x00, 0x00, 0x00, 0x00, 0x00, 0x00, 0x00] [] = .fault (.unwrittenRegister .r0) ∧
    firstStep [] [] = .fault (.pcOutOfRange 0) :=
  ⟨rfl, rfl, rfl, rfl⟩

theorem test_faults_of_memory :
    firstStep [0x79, 0x21, 0x10, 0x00, 0x00, 0x00, 0x00, 0x00] [(.r2, 0x1000)] = .fault (.memFault 0x1010 8 .read) ∧
    firstStep [0x63, 0x21, 0x00, 0x00, 0x00, 0x00, 0x00, 0x00] [(.r1, 0x1000), (.r2, 0x7)] (fun p => { p with regions := [⟨0x1000#64, 16, true, false, false⟩] }) = .fault (.memFault 0x1000 4 .write) ∧
    firstStep [0x71, 0x21, 0x01, 0x00, 0x00, 0x00, 0x00, 0x00] [(.r2, 0xffffffffffffffff)] = .fault (.memFault 0 1 .read) ∧
    firstStep [0x61, 0x21, 0x02, 0x00, 0x00, 0x00, 0x00, 0x00] [(.r2, 0x1000)] = .fault (.misalignedAccess 0x1002 4) ∧
    firstStep [0xdb, 0x21, 0x04, 0x00, 0x00, 0x00, 0x00, 0x00] [(.r1, 0x1000), (.r2, 0x1)] (fun p => { p with strictAlign := false }) = .fault (.misalignedAccess 0x1004 8) ∧
    firstStep [0x79, 0x21, 0x0c, 0x00, 0x00, 0x00, 0x00, 0x00] [(.r2, 0x1000)] = .fault (.misalignedAccess 0x100c 8) :=
  ⟨rfl, rfl, rfl, rfl, rfl, rfl⟩

theorem test_faults_of_the_platform :
    firstStep [0x85, 0x00, 0x00, 0x00, 0x63, 0x00, 0x00, 0x00] [] = .fault (.unknownHelper .byAddress 99) ∧
    firstStep [0x18, 0x31, 0x00, 0x00, 0x04, 0x00, 0x00, 0x00, 0x00, 0x00, 0x00, 0x00, 0x00, 0x00, 0x00, 0x00] [] = .fault (.platformUndefined 3 4) :=
  ⟨rfl, rfl⟩

/-- X24: the eighth nested call finds eight active functions. -/
theorem test_call_depth :
    ((start .little [0x85, 0x10, 0, 0, 0xff, 0xff, 0xff, 0xff] [(.r10, 0x2000)]).run 8).status =
      .faulted (.callDepthExceeded 0) := by decide

/-! ## Witnesses: for each statement of Obligations.lean with hypotheses, values that meet all of them together -/

/-- `r2 += 1`; `r1 = 0x5566778811223344 ll` (two slots); `exit`. -/
def demoBytes : List Nat :=
  [0x07, 0x02, 0, 0, 1, 0, 0, 0, 0x18, 0x01, 0, 0, 0x44, 0x33, 0x22, 0x11, 0, 0, 0, 0, 0x88, 0x77, 0x66, 0x55,
    0x95, 0, 0, 0, 0, 0, 0, 0]

/-- A running state of `demoBytes` in which registers 0 to 4 and 10 hold values. -/
def demo (bytes : List Nat := demoBytes) : State :=
  start .little bytes [(.r0, 7#64), (.r1, 0x1000#64), (.r2, 5#64), (.r3, 0#64), (.r4, 0xffffffff00000000#64),
    (.r10, 0x2000#64)]

/-- `demo` at a slot index. -/
def demoAt (pc : Int) : State := { demo with pc := pc }

/-- `demo` inside a program-local call, with `n` frames on the stack, the last return slot being 2. -/
def called (n : Nat) : State :=
  { demo with frames := List.replicate n ⟨2, some 6#64, none, none, none, 0x2200#64⟩ }

/-- Helper 1, with one reply to every call. -/
def replying (r : HelperReply) : Helper := ⟨.byAddress, 1#32, [⟨[], [], r⟩]⟩

/-- A state with the helper `replying r`; register 1 holds a value. -/
def withReply (r : HelperReply) : State :=
  let s := start .little [] [(.r1, 1#64)]
  { s with params := { s.params with helpers := [replying r] } }

theorem admitted_of_admits {s : State} {kind : AccessKind} {a n : Nat} (h : s.params.admits kind a n = true) :
    s.admitted kind a n := admits_iff_admitted.mp h

theorem not_admitted_of_admits {s : State} {kind : AccessKind} {a n : Nat} (h : s.params.admits kind a n = false) :
    ¬ s.admitted kind a n := fun k => absurd (admits_iff_admitted.mpr k) (by simp [h])

theorem witness_DecodeInvertsEncode : (Instr.add64Imm .r9 0x80000000).wf = true ∧
    (Instr.ldImm64 .r0 0xffffffff 0xffffffff).wf = true ∧ (encode .big (.add64Imm .r9 0x80000000)).length = 1 ∧
    (encode .big (.ldImm64 .r0 0xffffffff 0xffffffff)).length = 2 := by decide

theorem witness_DecodeAcceptsOnlyEncodings :
    decode .big ⟨0x07, 0x10, 0, 0, 0x11, 0x22, 0x33, 0x44⟩ none = .ok (.add64Imm .r1 0x11223344) ∧
    decode .little ⟨0x18, 0x09, 0, 0, 1, 0, 0, 0⟩ (some ⟨0, 0, 0, 0, 2, 0, 0, 0⟩) = .ok (.ldImm64 .r9 1 2) := ⟨rfl, rfl⟩

theorem witness_OpcodeByteTellsLength :
    decode .little ⟨0x95, 0, 0, 0, 0, 0, 0, 0⟩ none = .ok .exit ∧
    decode .little ⟨0x18, 0x19, 0, 0, 1, 0, 0, 0⟩ (some ⟨0, 0, 0, 0, 0, 0, 0, 0⟩) = .ok (.ldMapFd .r9 1) := ⟨rfl, rfl⟩

theorem witness_UndefinedOpcodesAreRefused : 0x00#8 ∉ definedOpcodes ∧ 0x19#8 ∉ definedOpcodes ∧
    0xe7#8 ∉ definedOpcodes ∧ 0xff#8 ∉ definedOpcodes := by decide

theorem witness_FramePointerWritesAreRefused :
    (Instr.add64Imm .r10 1).wf = false ∧ (Instr.ldImm64 .r10 1 2).wf = false := by decide

/-- For each clause: no other agents and a next state, a fault, and other agents. -/
theorem witness_StepRunsDecodedInstruction :
    (∀ x : Bool, let s := { demo with params := { demo.params with externalAgents := x } }
      s.status = .running ∧ s.slotAt s.pc = some ⟨0x07, 0x02, 0, 0, 1, 0, 0, 0⟩ ∧
      decode s.params.endian ⟨0x07, 0x02, 0, 0, 1, 0, 0, 0⟩ (s.slotAt (s.pc + 1)) = .ok (.add64Imm .r2 1) ∧
      (∃ t, exec (.add64Imm .r2 1) s = .next t) ∧ s.params.externalAgents = x) ∧
    (Instr.add64Imm .r2 1).wf = true ∧
    exec (.add64Imm .r2 1) (start .little demoBytes []) = .fault (.unwrittenRegister .r2) ∧
    (∃ t, exec .exit demo = .next t ∧ t.status ≠ .running) :=
  ⟨fun x => ⟨rfl, rfl, rfl, ⟨_, rfl⟩, rfl⟩, rfl, rfl, ⟨_, rfl, by decide⟩⟩

theorem witness_StepRunsPlacedEncoding :
    (demoAt 1).status = .running ∧ (Instr.ldImm64 .r1 0x11223344 0x55667788).wf = true ∧
    (demoAt 1).params.program = slots [0x07, 0x02, 0, 0, 1, 0, 0, 0] ++
      encode demo.params.endian (.ldImm64 .r1 0x11223344 0x55667788) ++ slots [0x95, 0, 0, 0, 0, 0, 0, 0] ∧
    (demoAt 1).pc = ((slots [0x07, 0x02, 0, 0, 1, 0, 0, 0]).length : Int) := by decide

theorem witness_PcOutOfRangeExactlyOutsideProgram :
    (demoAt (-1)).status = .running ∧ (-1 : Int) < 0 ∧ (demoAt 4).status = .running ∧
    (demo.params.program.length : Int) ≤ 4 ∧ State.reset.status = .running ∧
    (State.reset.params.program.length : Int) ≤ State.reset.pc := by decide

theorem witness_RunningStepNeverRefuses : demo.status = .running ∧ State.reset.status = .running := by decide

theorem witness_FaultChangesOnlyStatus : step (demoAt (-1)) = .fault (.pcOutOfRange (-1)) ∧
    step (start .little demoBytes []) = .fault (.unwrittenRegister .r2) := ⟨rfl, rfl⟩

theorem witness_EndedRunStaysAsItIs : { demo with status := .exited 0 }.status ≠ .running ∧
    { demo with status := .faulted (.pcOutOfRange 4) }.status ≠ .running := by decide

/-- The second slot of a wide instruction, and a wide instruction in the last slot. -/
theorem witness_JumpIntoSecondSlotIsIllegal : (demoAt 2).status = .running ∧
    (demoAt 2).slotAt 2 = some ⟨0, 0, 0, 0, 0x88, 0x77, 0x66, 0x55⟩ ∧
    (Slot.mk 0 0 0 0 0x88 0x77 0x66 0x55).b0 = 0x00#8 ∧
    (demo [0x18, 0x01, 0, 0, 1, 0, 0, 0]).slotAt 0 = some ⟨0x18, 0x01, 0, 0, 1, 0, 0, 0⟩ ∧
    decode .little ⟨0x18, 0x01, 0, 0, 1, 0, 0, 0⟩ ((demo [0x18, 0x01, 0, 0, 1, 0, 0, 0]).slotAt 1) =
      .error .missingSecondSlot := ⟨rfl, rfl, rfl, rfl, rfl⟩

theorem witness_LegacyPacketAccessIsUnmodelled :
    (demo [0x20, 0xff, 1, 2, 3, 4, 5, 6]).status = .running ∧
    (demo [0x20, 0xff, 1, 2, 3, 4, 5, 6]).slotAt 0 = some ⟨0x20, 0xff, 1, 2, 3, 4, 5, 6⟩ ∧
    (Slot.mk 0x20 0xff 1 2 3 4 5 6).b0 ∈ [0x20#8, 0x28#8, 0x30#8, 0x38#8, 0x40#8, 0x48#8, 0x50#8, 0x58#8] := by decide

/-- A destination that holds a value; the immediate is any. -/
theorem witness_Alu64ImmediateResults : Reg.r2 ≠ .r10 ∧ demo.reg .r2 = some 5#64 := by decide

theorem witness_Alu64RegisterResults : Reg.r2 ≠ .r10 ∧ demo.reg .r2 = some 5#64 ∧ demo.reg .r10 = some 0x2000#64 := by
  decide

theorem witness_Alu32ImmediateResults : Reg.r4 ≠ .r10 ∧ demo.reg .r4 = some 0xffffffff00000000#64 := by decide

theorem witness_Alu32RegisterResults : Reg.r2 ≠ .r10 ∧ demo.reg .r2 = some 5#64 ∧
    demo.reg .r4 = some 0xffffffff00000000#64 := by decide

/-- The destination need hold no value for MOV; source and destination may be one register. -/
theorem witness_MoveAndNegateResults : Reg.r9 ≠ .r10 ∧ demo.reg .r9 = none ∧ demo.reg .r4 = some 0xffffffff00000000#64 ∧
    Reg.r4 ≠ .r10 := by decide

theorem witness_ByteSwapResults : Reg.r4 ≠ .r10 ∧ demo.reg .r4 = some 0xffffffff00000000#64 ∧
    demo.params.endian = .little ∧ (start .big [] [(.r4, 1#64)]).reg .r4 = some 1#64 := by decide

/-- A zero divisor, and one whose low half alone is zero. -/
theorem witness_ZeroDivisorIsNoFault : Reg.r2 ≠ .r10 ∧ demo.reg .r2 = some 5#64 ∧ demo.reg .r3 = some 0#64 ∧
    demo.reg .r4 = some 0xffffffff00000000#64 ∧ BitVec.setWidth 32 0xffffffff00000000#64 = 0#32 := by decide

/-- The most negative value by -1, at both widths. -/
theorem witness_SignedDivisionTruncates :
    (start .little [] [(.r1, 0x8000000080000000#64), (.r2, 0x8000000000000000#64), (.r3, 0xffffffffffffffff#64)]).reg .r2 =
      some 0x8000000000000000#64 ∧
    (start .little [] [(.r1, 0x8000000080000000#64), (.r2, 0x8000000000000000#64), (.r3, 0xffffffffffffffff#64)]).reg .r3 =
      some 0xffffffffffffffff#64 ∧
    Reg.r2 ≠ .r10 ∧ 0xffffffffffffffff#64 ≠ 0 ∧ BitVec.setWidth 32 0xffffffffffffffff#64 ≠ 0#32 := by decide

/-- Counts at and above the width. -/
theorem witness_ShiftsAreMaskedArithmetic : Reg.r1 ≠ .r10 ∧
    (start .little [] [(.r1, 0x8000000080000000#64), (.r2, 64#64), (.r3, 63#64)]).reg .r1 = some 0x8000000080000000#64 ∧
    (start .little [] [(.r1, 0x8000000080000000#64), (.r2, 64#64), (.r3, 63#64)]).reg .r2 = some 64#64 := by decide

theorem witness_Alu32IgnoresUpperHalves :
    let u := { demo with regs := demo.regs.put .r2 (some 0xabcdef0000000005#64) }
    u = { demo with regs := u.regs } ∧
    (∀ r, (u.reg r).map (BitVec.setWidth 32) = (demo.reg r).map (BitVec.setWidth 32)) ∧
    (Instr.add32Reg .r2 .r4).fields.opcode.extractLsb' 0 3 = 4#3 ∧
    (Instr.add32Reg .r2 .r4).fields.opcode.extractLsb' 4 4 ≠ 0xd#4 ∧
    (Instr.jeq32Imm .r2 5 1).fields.opcode.extractLsb' 0 3 = 6#3 ∧
    (∃ t, exec (.add32Reg .r2 .r4) demo = .next t) ∧ ∃ t, exec (.jeq32Imm .r2 5 1) demo = .next t :=
  ⟨rfl, fun r => by cases r <;> rfl, rfl, by decide, rfl, ⟨_, rfl⟩, ⟨_, rfl⟩⟩

theorem witness_Alu32ZeroesUpperHalf :
    (Instr.mov32Reg .r2 .r4).fields.opcode.extractLsb' 0 3 = 4#3 ∧
    (Instr.mov32Reg .r2 .r4).fields.opcode.extractLsb' 4 4 ≠ 0xd#4 ∧
    ∃ t, exec (.mov32Reg .r2 .r4) demo = .next t := ⟨rfl, by decide, ⟨_, rfl⟩⟩

theorem witness_Jump64ImmediateBranches : demo.reg .r10 = some 0x2000#64 := by decide

theorem witness_Jump64RegisterBranches : demo.reg .r2 = some 5#64 ∧ demo.reg .r10 = some 0x2000#64 := by decide

theorem witness_Jump32ImmediateBranches : demo.reg .r4 = some 0xffffffff00000000#64 := by decide

theorem witness_Jump32RegisterBranches : demo.reg .r3 = some 0#64 ∧ demo.reg .r4 = some 0xffffffff00000000#64 := by decide

/-- The last bytes of the region, at each width. -/
theorem witness_LoadsCompleteWithBytesRead : Reg.r1 ≠ .r10 ∧ demo.reg .r1 = some 0x1000#64 ∧
    ∀ n ∈ [1, 2, 4, 8], (0x1000#64 + (BitVec.ofNat 16 (16 - n)).signExtend 64).toNat % n = 0 ∧
      demo.admitted .read (0x1000#64 + (BitVec.ofNat 16 (16 - n)).signExtend 64).toNat n :=
  ⟨by decide, by decide, fun n h => ⟨by revert n; decide, admitted_of_admits (by revert n; decide)⟩⟩

theorem witness_StoresCompleteWithBytesWritten : demo.reg .r1 = some 0x1000#64 ∧ demo.reg .r4 = some 0xffffffff00000000#64 ∧
    ∀ n ∈ [1, 2, 4, 8], (0x1000#64 + (BitVec.ofNat 16 (16 - n)).signExtend 64).toNat % n = 0 ∧
      demo.admitted .write (0x1000#64 + (BitVec.ofNat 16 (16 - n)).signExtend 64).toNat n :=
  ⟨by decide, by decide, fun n h => ⟨by revert n; decide, admitted_of_admits (by revert n; decide)⟩⟩

/-- With and without a value in register 0, which compare-and-exchange alone reads. -/
theorem witness_Atomic64Complete :
    let s := start .little [] [(.r1, 0x1000#64), (.r2, 5#64)]
    demo.reg .r1 = some 0x1000#64 ∧ demo.reg .r2 = some 5#64 ∧ demo.reg .r0 = some 7#64 ∧
    (0x1000#64 + (8#16).signExtend 64).toNat % 8 = 0 ∧
    demo.admitted .readWrite (0x1000#64 + (8#16).signExtend 64).toNat 8 ∧ Reg.r2 ≠ .r10 ∧
    s.reg .r1 = some 0x1000#64 ∧ s.reg .r2 = some 5#64 ∧ s.reg .r0 = none ∧
    s.admitted .readWrite (0x1000#64 + (8#16).signExtend 64).toNat 8 :=
  ⟨by decide, by decide, by decide, by decide, admitted_of_admits (by decide), by decide, rfl, rfl, rfl,
    admitted_of_admits (by decide)⟩

theorem witness_Atomic32Complete :
    let s := start .little [] [(.r1, 0x1000#64), (.r4, 5#64)]
    demo.reg .r1 = some 0x1000#64 ∧ demo.reg .r4 = some 0xffffffff00000000#64 ∧
    demo.reg .r0 = some 7#64 ∧ (0x1000#64 + (12#16).signExtend 64).toNat % 4 = 0 ∧
    demo.admitted .readWrite (0x1000#64 + (12#16).signExtend 64).toNat 4 ∧ Reg.r4 ≠ .r10 ∧
    s.reg .r1 = some 0x1000#64 ∧ s.reg .r4 = some 5#64 ∧ s.reg .r0 = none ∧
    s.admitted .readWrite (0x1000#64 + (12#16).signExtend 64).toNat 4 :=
  ⟨by decide, by decide, by decide, by decide, admitted_of_admits (by decide), by decide, rfl, rfl, rfl,
    admitted_of_admits (by decide)⟩

/-- For each of the three clauses: a misaligned address, an aligned one past the region, an aligned one inside it. -/
theorem witness_MemoryInstructionOutcomes :
    let x : BitVec 16 → Access := fun offset => ⟨.read, .r1, offset, 8, false⟩
    (∀ offset, (Instr.ldxDw .r2 .r1 offset).access = some (x offset) ∧ (Instr.ldxDw .r2 .r1 offset).wf = true) ∧
    (∀ r ∈ (Instr.ldxDw .r2 .r1 0).reads, (demo.reg r).isSome = true) ∧
    (demo.accessAddress (x 4) = some 0x1004#64 ∧ ¬ demo.alignedFor (x 4) 0x1004) ∧
    (demo.accessAddress (x 16) = some 0x1010#64 ∧ demo.alignedFor (x 16) 0x1010 ∧ ¬ demo.admitted .read 0x1010 8) ∧
    demo.accessAddress (x 8) = some 0x1008#64 ∧ demo.alignedFor (x 8) 0x1008 ∧ demo.admitted .read 0x1008 8 :=
  ⟨fun _ => ⟨rfl, rfl⟩, by decide, ⟨by decide, fun h => absurd (h (.inr rfl)) (by decide)⟩,
    ⟨by decide, fun _ => rfl, not_admitted_of_admits (by decide)⟩, by decide, fun _ => rfl,
    admitted_of_admits (by decide)⟩

theorem witness_StoreThenLoadReturnsValue : demo.reg .r1 = some 0x1000#64 ∧ demo.reg .r4 = some 0xffffffff00000000#64 ∧
    Reg.r1 ≠ .r10 ∧ (∀ k, k < 8 → demo.params.interferes (0x1008 + k) = false) ∧
    (∀ n ∈ [1, 2, 4, 8], demo.admitted .read 0x1008 n) ∧
    (∃ t, exec (.stxB .r1 .r4 8) demo = .next t) ∧ (∃ t, exec (.stxH .r1 .r4 8) demo = .next t) ∧
    (∃ t, exec (.stxW .r1 .r4 8) demo = .next t) ∧ ∃ t, exec (.stxDw .r1 .r4 8) demo = .next t :=
  ⟨by decide, by decide, by decide, fun _ _ => rfl, fun n h => admitted_of_admits (by revert n; decide),
    ⟨_, rfl⟩, ⟨_, rfl⟩, ⟨_, rfl⟩, ⟨_, rfl⟩⟩

theorem witness_MixedWidthViewOfMemory (e : Endian) :
    let s := start e [] [(.r1, 0x1000#64), (.r2, 0x1122334455667788#64)]
    s.reg .r1 = some 0x1000#64 ∧ s.reg .r2 = some 0x1122334455667788#64 ∧
    (∃ t, exec (.stxDw .r1 .r2 8) s = .next t) ∧ (∀ k, k < 8 → s.params.interferes (0x1008 + k) = false) ∧
    s.params.endian = e := by
  cases e <;> exact ⟨rfl, rfl, ⟨_, rfl⟩, fun _ _ => rfl, rfl⟩

/-- The last call the depth bound admits, and a caller of none. -/
theorem witness_LocalCallPushesFrame : 1 + (called 6).frames.length ≠ (called 6).params.maxCallDepth ∧
    (called 6).reg .r10 = some 0x2000#64 ∧ 1 + demo.frames.length ≠ demo.params.maxCallDepth ∧
    demo.reg .r10 = some 0x2000#64 := by decide

theorem witness_LocalCallAtDepthBoundFaults : 1 + (called 7).frames.length = (called 7).params.maxCallDepth := by decide

theorem witness_ExitEndsOrReturns : demo.reg .r0 = some 7#64 ∧ demo.frames = [] ∧ (called 1).reg .r0 = some 7#64 ∧
    (called 1).frames = [⟨2, some 6#64, none, none, none, 0x2200#64⟩] := by decide

theorem witness_CallerRegistersSurviveCall : ∃ t v, exec (.callLocal 5) demo = .next t ∧
    (t.setReg .r0 9#64).frames = t.frames ∧ exec .exit (t.setReg .r0 9#64) = .next v := ⟨_, _, rfl, rfl, rfl⟩

/-- A helper that gives a value and writes the last byte of the region, and one that gives none. -/
theorem witness_HelperCallsComplete :
    let r : HelperReply := ⟨[.r1], .result (some 3#64) [(0x100f, 9)]⟩
    (withReply r).params.helper .byAddress 1 = some (replying r) ∧
    (∀ a ∈ ((withReply r).helperReply (replying r)).reads, ((withReply r).reg a.reg).isSome = true) ∧
    ((withReply r).helperReply (replying r)).outcome = .result (some 3#64) [(0x100f, 9)] ∧
    (∀ c ∈ [((0x100f : Nat), (9 : Byte))], (withReply r).admitted .write c.1 1) ∧
    (∀ c ∈ (replying r).cases, (withReply r).meets c = true) ∧
    demo.params.helper .byBtfId 7 = some ⟨.byBtfId, 7, [⟨[], [], ⟨[.r1], .result none []⟩⟩]⟩ ∧
    demo.helperReply ⟨.byBtfId, 7, [⟨[], [], ⟨[.r1], .result none []⟩⟩]⟩ = ⟨[.r1], .result none []⟩ :=
  ⟨rfl, by decide, rfl, fun c h => admitted_of_admits (by revert c; decide), by decide, rfl, rfl⟩

/-- The absent key, the empty argument register, the three failures, and a write past the region. -/
theorem witness_HelperCallFaults :
    let q : HelperReply := ⟨[.r1, .r2, .r3], .result none []⟩
    let r : HelperReply := ⟨[], .result none ([(0x100f, 1)] ++ (0x1010, 2) :: [(0x1000, 3)])⟩
    let failing : HelperFailure → HelperReply := fun why => ⟨[.r1], .failed why⟩
    demo.params.helper .byAddress 99 = none ∧
    (withReply q).params.helper .byAddress 1 = some (replying q) ∧
    ((withReply q).helperReply (replying q)).reads.find? (fun a => ((withReply q).reg a.reg).isNone) = some .r2 ∧
    (∀ why ∈ [HelperFailure.helperFault 3, .memFault 0x1010 4 .read, .misaligned 0x1001 2],
      (withReply (failing why)).params.helper .byAddress 1 = some (replying (failing why)) ∧
        (∀ a ∈ ((withReply (failing why)).helperReply (replying (failing why))).reads,
          ((withReply (failing why)).reg a.reg).isSome = true) ∧
        ((withReply (failing why)).helperReply (replying (failing why))).outcome = .failed why) ∧
    (withReply r).params.helper .byAddress 1 = some (replying r) ∧ (withReply r).helperReply (replying r) = r ∧
    (∀ b ∈ [((0x100f : Nat), (1 : Byte))], (withReply r).admitted .write b.1 1) ∧
    ¬ (withReply r).admitted .write 0x1010 1 :=
  ⟨rfl, rfl, rfl, by decide,
    ⟨rfl, rfl, fun c h => admitted_of_admits (by revert c; decide), not_admitted_of_admits (by decide)⟩⟩

theorem witness_WideConstantIsAssembled : Reg.r9 ≠ .r10 := by decide

theorem witness_PlatformAddressLoads : Reg.r1 ≠ .r10 ∧ demo.params.mapByFd.lookup 5 = some 0xa500#64 ∧
    demo.params.mapByIdx.lookup 5 = some 0xa500#64 ∧ demo.params.mapVal.lookup 0xa500#64 = some 0xa540#64 ∧
    demo.params.varAddr.lookup 5 = some 0xb050#64 ∧
    demo.params.codeAddr.lookup (demo.pc + 1 + (5#32).toInt) = some 0xc030#64 := by decide

/-- Both sides of each equivalence occur. -/
theorem witness_PlatformUndefinedExactlyWhereUndefined : Reg.r1 ≠ .r10 ∧
    demo.params.mapByFd.lookup 4 = none ∧ demo.params.mapByFd.lookup 5 = some 0xa500#64 := by decide

/-- The second of two registers, the first of two empty ones, register 0 of a compare-and-exchange, register 10 of a call. -/
theorem witness_UnwrittenRegisterIsFirstFault :
    let meets : Instr → State → Reg → Prop := fun i s r =>
      i.wf = true ∧ i.reads.find? (fun q => (s.reg q).isNone) = some r ∧
        ∀ imm, i = .callLocal imm → 1 + s.frames.length ≠ s.params.maxCallDepth
    meets (.add64Reg .r2 .r6) demo .r6 ∧ meets (.stxDw .r7 .r6 0) demo .r7 ∧
    meets (.atomicCmpxchg64 .r1 .r1 0) (start .little [] [(.r1, 0x1000#64)]) .r0 ∧
    meets (.callLocal 3) (start .little [] []) .r10 :=
  ⟨⟨rfl, rfl, nofun⟩, ⟨rfl, rfl, nofun⟩, ⟨rfl, rfl, nofun⟩, ⟨rfl, rfl, fun _ _ => by decide⟩⟩

theorem witness_RegisterFrame : (∃ t, exec (.add32Imm .r2 1) demo = .next t) ∧ Reg.r3 ∉ (Instr.add32Imm .r2 1).writes ∧
    (∃ t, exec (.callHelper 7) demo = .next t) ∧ Reg.r6 ∉ (Instr.callHelper 7).writes ∧
    (∃ t, exec .exit (called 1) = .next t) ∧ Reg.r0 ∉ Instr.exit.writes :=
  ⟨⟨_, rfl⟩, by decide, ⟨_, rfl⟩, by decide, ⟨_, rfl⟩, by decide⟩

/-- The addresses next to the eight bytes stored, and an instruction that stores nothing. -/
theorem witness_MemoryFrame :
    (∃ t, exec (.stxDw .r1 .r4 0) demo = .next t) ∧ (∀ imm, Instr.stxDw .r1 .r4 0 ≠ .callHelper imm ∧
      Instr.stxDw .r1 .r4 0 ≠ .callBtf imm) ∧
    (∀ a ∈ [0xfff, 0x1008], ∀ x addr, (Instr.stxDw .r1 .r4 0).access = some x → x.kind ≠ .read →
      demo.accessAddress x = some addr → a < addr.toNat ∨ addr.toNat + x.bytes ≤ a) ∧
    (∃ t, exec (.ldxDw .r1 .r1 0) demo = .next t) ∧
    ∀ x addr, (Instr.ldxDw .r1 .r1 0).access = some x → x.kind ≠ .read → demo.accessAddress x = some addr →
      (0x1000 < addr.toNat ∨ addr.toNat + x.bytes ≤ 0x1000) := by
  refine ⟨⟨_, rfl⟩, fun _ => ⟨nofun, nofun⟩, fun a ha x addr hx _ ht => ?_, ⟨_, rfl⟩, fun x addr hx hk _ => ?_⟩
  · cases hx
    cases ht
    revert a
    decide
  · cases hx
    exact absurd rfl hk

theorem witness_ControlStateFrame : (∃ t, exec (.add64Imm .r2 1) demo = .next t) ∧
    (∀ imm, Instr.add64Imm .r2 1 ≠ .callLocal imm) ∧ Instr.add64Imm .r2 1 ≠ .exit ∧
    (Instr.add64Imm .r2 1).fields.opcode.extractLsb' 0 3 = 7#3 ∧
    (∃ t, exec (.callHelper 7) demo = .next t) ∧ (Instr.callHelper 7).fields.opcode.extractLsb' 0 3 = 5#3 ∧
    (Instr.callHelper 7).fields.opcode = 0x85#8 ∧ ∃ t, exec (.ja 2) demo = .next t :=
  ⟨⟨_, rfl⟩, nofun, nofun, rfl, ⟨_, rfl⟩, rfl, rfl, ⟨_, rfl⟩⟩

theorem witness_ProgramTextIsNeverWritten : ∃ t, step demo = .next t := ⟨_, rfl⟩

/-- A store runs; the bytes next to the writable region are not writable. -/
theorem witness_UnwritableMemoryNeverChanges : (∃ t, step (demo [0x7b, 0x41, 8, 0, 0, 0, 0, 0]) = .next t) ∧
    ¬ (demo [0x7b, 0x41, 8, 0, 0, 0, 0, 0]).admitted .write 0xfff 1 ∧
    ¬ (demo [0x7b, 0x41, 8, 0, 0, 0, 0, 0]).admitted .write 0x1010 1 ∧
    (∀ a ∈ [0xfff, 0x1010], (demo [0x7b, 0x41, 8, 0, 0, 0, 0, 0]).params.interferes a = false) :=
  ⟨⟨_, rfl⟩, not_admitted_of_admits (by decide), not_admitted_of_admits (by decide), by decide⟩

theorem witness_InvariantHoldsAtLaunch :
    1 ≤ (platform .little demoBytes).maxCallDepth ∧ demo.mem.wf ∧
    ∀ c ∈ demo.mem.cells, ∃ r ∈ (platform .little demoBytes).regions,
      r.base.toNat ≤ c.1 ∧ c.1 < r.base.toNat + r.length := by decide

/-- `called 1` about to return. -/
def returning : State := { called 1 with pc := 3 }

/-- A step of the entry function, a call, and a return, each from a state that meets the invariant. -/
theorem witness_InvariantKeptByEveryStep :
    (demo.Inv ∧ ∃ t, step demo = .next t) ∧
    ((demo [0x85, 0x10, 0, 0, 0, 0, 0, 0]).Inv ∧ ∃ t, step (demo [0x85, 0x10, 0, 0, 0, 0, 0, 0]) = .next t) ∧
    (returning.Inv ∧ ∃ t, step returning = .next t) :=
  ⟨⟨⟨by decide, by decide, by decide, trivial⟩, ⟨_, rfl⟩⟩, ⟨⟨by decide, by decide, by decide, trivial⟩, ⟨_, rfl⟩⟩,
    ⟨⟨by decide, by decide, by decide, ⟨rfl, trivial⟩⟩, ⟨_, rfl⟩⟩⟩

theorem witness_FramePointerIsReadOnly :
    (∃ t, step (demo [0x85, 0x10, 0, 0, 0, 0, 0, 0]) = .next t ∧
      t.reg .r10 ≠ (demo [0x85, 0x10, 0, 0, 0, 0, 0, 0]).reg .r10) ∧
    ∃ t, step returning = .next t ∧ t.reg .r10 ≠ returning.reg .r10 :=
  ⟨⟨_, rfl, by decide⟩, ⟨_, rfl, by decide⟩⟩

end Sys2Proof.Tests
end

/-! ## What a completed instruction does

`Effect` lists every way in which an instruction can change the state, with the check that it passed. What holds of all
instructions follows by cases on it, without another walk through the dispatch. -/

namespace Sys2Proof.Machine

/-- What a completed instruction can make of `s` (`exec_effect`), whichever instruction it is: a bound from above, with
the written values left open. -/
inductive Effect (s : State) : State → Prop
  /-- a result in a register; `pc` moves by the slots of the instruction (R49) -/
  | setReg {r : Reg} (v : Word) (n : Int) (hr : r.writable = true) : Effect s ((s.setReg r v).skip n)
  /-- a branch, taken or not (R321) -/
  | jump (d : Int) : Effect s (s.skip d)
  /-- a load: the bytes read are drawn (R93), the value stands in a register -/
  | load {r : Reg} (v : Word) (n : Nat) (hr : r.writable = true) : Effect s (((s.drew n).setReg r v).skip 1)
  /-- a store to admitted bytes (R91, R432) -/
  | store {a n : Nat} (v : Word) (ha : s.params.admits .write a n = true) : Effect s ((s.store a n v).skip 1)
  /-- an atomic that returns nothing (R472) -/
  | rmw {a n : Nat} (v : Word) (ha : s.params.admits .readWrite a n = true) :
      Effect s (((s.drew n).store a n v).skip 1)
  /-- an atomic that returns the old value in a register (R473) -/
  | fetchRmw {r : Reg} {a n : Nat} (v old : Word) (hr : r.writable = true)
      (ha : s.params.admits .readWrite a n = true) :
      Effect s ((((s.drew n).store a n v).setReg r old).skip 1)
  /-- a helper call; the helper writes writable bytes only (R403, R406) -/
  | helper (r0 : Option Word) {writes : List (Nat × Byte)}
      (hw : ∀ c ∈ writes, s.params.admits .write c.1 1 = true) :
      Effect s { s with
        regs := s.regs.afterHelper r0
        mem := s.mem.writeCells writes
        calls := s.calls + 1
        pc := s.pc + 1 }
  /-- a program-local call below the depth bound (R407) -/
  | call {fp : Word} (d : Int) (hd : s.activeFunctions ≠ s.params.maxCallDepth) (hfp : s.reg .r10 = some fp) :
      Effect s { s with
        frames := s.callFrame fp :: s.frames
        regs := s.regs.enter (fp - BitVec.ofNat 64 s.params.stackSize)
        pc := s.pc + 1 + d }
  /-- `exit` of the entry function (R409) -/
  | endRun {v : Word} (hv : s.reg .r0 = some v) (hf : s.frames = []) : Effect s { s with status := .exited v }
  /-- `exit` of a callee (R409) -/
  | ret {fr : Frame} {rest : List Frame} (hf : s.frames = fr :: rest) :
      Effect s { s with frames := rest, regs := s.regs.leave fr, pc := fr.ret }

section Forms

variable {s t : State}

theorem Effect.of_alu64K {f : Word → Word → Word} {dst : Reg} {imm : Word32}
    (h : alu64K f dst imm s = .next t) : Effect s t := by
  obtain ⟨hr, _, -, rfl⟩ := alu64K_next.mp h
  exact .setReg _ _ hr

theorem Effect.of_alu64X {f : Word → Word → Word} {dst src : Reg} (h : alu64X f dst src s = .next t) :
    Effect s t := by
  obtain ⟨hr, _, -, _, -, rfl⟩ := alu64X_next.mp h
  exact .setReg _ _ hr

theorem Effect.of_alu32K {f : Word32 → Word32 → Word32} {dst : Reg} {imm : Word32}
    (h : alu32K f dst imm s = .next t) : Effect s t := by
  obtain ⟨hr, _, -, rfl⟩ := alu32K_next.mp h
  exact .setReg _ _ hr

theorem Effect.of_alu32X {f : Word32 → Word32 → Word32} {dst src : Reg} (h : alu32X f dst src s = .next t) :
    Effect s t := by
  obtain ⟨hr, _, -, _, -, rfl⟩ := alu32X_next.mp h
  exact .setReg _ _ hr

theorem Effect.of_aluUnary {f : Word → Word} {dst : Reg} (h : aluUnary f dst s = .next t) : Effect s t := by
  obtain ⟨hr, _, -, rfl⟩ := aluUnary_next.mp h
  exact .setReg _ _ hr

theorem Effect.of_moveK {v : Word} {dst : Reg} (h : moveK v dst s = .next t) : Effect s t := by
  obtain ⟨hr, rfl⟩ := moveK_next.mp h
  exact .setReg _ _ hr

theorem Effect.of_moveX {f : Word → Word} {dst src : Reg} (h : moveX f dst src s = .next t) : Effect s t := by
  obtain ⟨hr, _, -, rfl⟩ := moveX_next.mp h
  exact .setReg _ _ hr

theorem Effect.of_branch {taken : Bool} {d : Int} (h : branch taken d s = .next t) : Effect s t := by
  obtain rfl := branch_next.mp h
  exact .jump _

theorem Effect.of_jump64K {c : Word → Word → Bool} {dst : Reg} {imm : Word32} {off : BitVec 16}
    (h : jump64K c dst imm off s = .next t) : Effect s t := by
  obtain ⟨_, -, rfl⟩ := jump64K_next.mp h
  exact .jump _

theorem Effect.of_jump64X {c : Word → Word → Bool} {dst src : Reg} {off : BitVec 16}
    (h : jump64X c dst src off s = .next t) : Effect s t := by
  obtain ⟨_, -, _, -, rfl⟩ := jump64X_next.mp h
  exact .jump _

theorem Effect.of_jump32K {c : Word32 → Word32 → Bool} {dst : Reg} {imm : Word32} {off : BitVec 16}
    (h : jump32K c dst imm off s = .next t) : Effect s t := by
  obtain ⟨_, -, rfl⟩ := jump32K_next.mp h
  exact .jump _

theorem Effect.of_jump32X {c : Word32 → Word32 → Bool} {dst src : Reg} {off : BitVec 16}
    (h : jump32X c dst src off s = .next t) : Effect s t := by
  obtain ⟨_, -, _, -, rfl⟩ := jump32X_next.mp h
  exact .jump _

theorem Effect.of_loadForm {size : Size} {ext : Word → Word} {dst src : Reg} {off : BitVec 16}
    (h : loadForm size ext dst src off s = .next t) : Effect s t := by
  obtain ⟨hr, _, -, -, -, rfl⟩ := loadForm_next.mp h
  exact .load _ _ hr

theorem Effect.of_storeAt {size : Size} {base : Word} {off : BitVec 16} {v : Word}
    (h : storeAt size base off v s = .next t) : Effect s t := by
  obtain ⟨-, ha, rfl⟩ := storeAt_next.mp h
  exact .store _ ha

theorem Effect.of_storeImm {size : Size} {dst : Reg} {off : BitVec 16} {imm : Word32}
    (h : storeImm size dst off imm s = .next t) : Effect s t := by
  obtain ⟨_, -, hs⟩ := storeImm_next.mp h
  exact .of_storeAt hs

theorem Effect.of_storeReg {size : Size} {dst src : Reg} {off : BitVec 16}
    (h : storeReg size dst src off s = .next t) : Effect s t := by
  obtain ⟨_, -, _, -, hs⟩ := storeReg_next.mp h
  exact .of_storeAt hs

theorem Effect.of_atomic64 {f : Word → Word → Word} {dst src : Reg} {off : BitVec 16}
    (h : atomic64 f dst src off s = .next t) : Effect s t := by
  obtain ⟨_, -, _, -, -, ha, rfl⟩ := atomic64_next.mp h
  exact .rmw _ ha

theorem Effect.of_atomic32 {f : Word32 → Word32 → Word32} {dst src : Reg} {off : BitVec 16}
    (h : atomic32 f dst src off s = .next t) : Effect s t := by
  obtain ⟨_, -, _, -, -, ha, rfl⟩ := atomic32_next.mp h
  exact .rmw _ ha

theorem Effect.of_atomicFetch64 {f : Word → Word → Word} {dst src : Reg} {off : BitVec 16}
    (h : atomicFetch64 f dst src off s = .next t) : Effect s t := by
  obtain ⟨hr, _, -, _, -, -, ha, rfl⟩ := atomicFetch64_next.mp h
  exact .fetchRmw _ _ hr ha

theorem Effect.of_atomicFetch32 {f : Word32 → Word32 → Word32} {dst src : Reg} {off : BitVec 16}
    (h : atomicFetch32 f dst src off s = .next t) : Effect s t := by
  obtain ⟨hr, _, -, _, -, -, ha, rfl⟩ := atomicFetch32_next.mp h
  exact .fetchRmw _ _ hr ha

/-- The two compare-and-exchange instructions end in this shape: `old` may narrow the value read. -/
theorem Effect.of_rmwThenSetR0 {size : Size} {base : Word} {off : BitVec 16} {f old : Word → Word}
    (h : (atomicRmw size base off f s fun o u => writeBack .r0 (old o) u) = .next t) : Effect s t := by
  obtain ⟨-, ha, hw⟩ := atomicRmw_next.mp h
  obtain rfl := writeBack_next.mp hw
  exact .fetchRmw _ _ rfl ha

theorem Effect.of_cmpxchg64 {dst src : Reg} {off : BitVec 16}
    (h : execAtomicCmpxchg64 dst src off s = .next t) : Effect s t := by
  simp only [execAtomicCmpxchg64, readReg_next] at h
  obtain ⟨_, -, _, -, _, -, hx⟩ := h
  exact .of_rmwThenSetR0 (old := fun o => o) hx

theorem Effect.of_cmpxchg32 {dst src : Reg} {off : BitVec 16}
    (h : execAtomicCmpxchg32 dst src off s = .next t) : Effect s t := by
  simp only [execAtomicCmpxchg32, readReg_next] at h
  obtain ⟨_, -, _, -, _, -, hx⟩ := h
  exact .of_rmwThenSetR0 (old := fun o => zext (low32 o)) hx

theorem Effect.of_ldImm64 {dst : Reg} {imm nextImm : Word32} (h : execLdImm64 dst imm nextImm s = .next t) :
    Effect s t := by
  obtain ⟨hr, hw⟩ := guardWrite_next.mp h
  obtain rfl := writeWide_next.mp hw
  exact .setReg _ _ hr

theorem Effect.of_wideForm {value : Option Word} {subtype : BitVec 4} {dst : Reg} {imm : Word32}
    (h : wideForm value subtype dst imm s = .next t) : Effect s t := by
  obtain ⟨hr, _, -, rfl⟩ := wideForm_next.mp h
  exact .setReg _ _ hr

theorem Effect.of_callHelperForm {kind : HelperKind} {imm : Word32} (h : callHelperForm kind imm s = .next t) :
    Effect s t := by
  obtain ⟨_, -, -, r0, _, -, hw, rfl⟩ := callHelperForm_next.mp h
  exact .helper r0 hw

theorem Effect.of_callLocal {imm : Word32} (h : execCallLocal imm s = .next t) : Effect s t := by
  unfold execCallLocal at h
  split at h
  · exact absurd h (raise_ne_next _ _)
  · next hd =>
    obtain ⟨_, hfp, hn⟩ := readReg_next.mp h
    obtain rfl := next_eq_next.mp hn
    exact .call _ hd hfp

theorem Effect.of_exit (h : execExit s = .next t) : Effect s t := by
  obtain ⟨_, hv, hn⟩ := readReg_next.mp h
  split at hn
  · next hf =>
    obtain rfl := next_eq_next.mp hn
    exact .endRun hv hf
  · next hf =>
    obtain rfl := next_eq_next.mp hn
    exact .ret hf

end Forms

/-- Every instruction that completes has one of the effects. -/
theorem exec_effect {i : Instr} {s t : State} (h : exec i s = .next t) : Effect s t := by
  unfold exec at h
  cases i with
  | add64Imm | sub64Imm | mul64Imm | div64Imm | sdiv64Imm | or64Imm | and64Imm | lsh64Imm | rsh64Imm | mod64Imm
  | smod64Imm | xor64Imm | arsh64Imm => exact .of_alu64K h
  | add64Reg | sub64Reg | mul64Reg | div64Reg | sdiv64Reg | or64Reg | and64Reg | lsh64Reg | rsh64Reg | mod64Reg
  | smod64Reg | xor64Reg | arsh64Reg => exact .of_alu64X h
  | add32Imm | sub32Imm | mul32Imm | div32Imm | sdiv32Imm | or32Imm | and32Imm | lsh32Imm | rsh32Imm | mod32Imm
  | smod32Imm | xor32Imm | arsh32Imm => exact .of_alu32K h
  | add32Reg | sub32Reg | mul32Reg | div32Reg | sdiv32Reg | or32Reg | and32Reg | lsh32Reg | rsh32Reg | mod32Reg
  | smod32Reg | xor32Reg | arsh32Reg => exact .of_alu32X h
  | neg64 | neg32 | le16 | le32 | le64 | be16 | be32 | be64 | bswap16 | bswap32 | bswap64 => exact .of_aluUnary h
  | mov64Imm | mov32Imm => exact .of_moveK h
  | mov64Reg | movsx64From8 | movsx64From16 | movsx64From32 | mov32Reg | movsx32From8 | movsx32From16 =>
    exact .of_moveX h
  | ja | ja32 => exact .of_branch h
  | jeq64Imm | jgt64Imm | jge64Imm | jset64Imm | jne64Imm | jsgt64Imm | jsge64Imm | jlt64Imm | jle64Imm | jslt64Imm
  | jsle64Imm => exact .of_jump64K h
  | jeq64Reg | jgt64Reg | jge64Reg | jset64Reg | jne64Reg | jsgt64Reg | jsge64Reg | jlt64Reg | jle64Reg | jslt64Reg
  | jsle64Reg => exact .of_jump64X h
  | jeq32Imm | jgt32Imm | jge32Imm | jset32Imm | jne32Imm | jsgt32Imm | jsge32Imm | jlt32Imm | jle32Imm | jslt32Imm
  | jsle32Imm => exact .of_jump32K h
  | jeq32Reg | jgt32Reg | jge32Reg | jset32Reg | jne32Reg | jsgt32Reg | jsge32Reg | jlt32Reg | jle32Reg | jslt32Reg
  | jsle32Reg => exact .of_jump32X h
  | callHelper | callBtf => exact .of_callHelperForm h
  | callLocal => exact .of_callLocal h
  | exit => exact .of_exit h
  | ldxW | ldxH | ldxB | ldxDw | ldxsxW | ldxsxH | ldxsxB => exact .of_loadForm h
  | stW | stH | stB | stDw => exact .of_storeImm h
  | stxW | stxH | stxB | stxDw => exact .of_storeReg h
  | atomicAdd32 | atomicOr32 | atomicAnd32 | atomicXor32 => exact .of_atomic32 h
  | atomicFetchAdd32 | atomicFetchOr32 | atomicFetchAnd32 | atomicFetchXor32 | atomicXchg32 =>
    exact .of_atomicFetch32 h
  | atomicAdd64 | atomicOr64 | atomicAnd64 | atomicXor64 => exact .of_atomic64 h
  | atomicFetchAdd64 | atomicFetchOr64 | atomicFetchAnd64 | atomicFetchXor64 | atomicXchg64 =>
    exact .of_atomicFetch64 h
  | atomicCmpxchg32 => exact .of_cmpxchg32 h
  | atomicCmpxchg64 => exact .of_cmpxchg64 h
  | ldImm64 => exact .of_ldImm64 h
  | ldMapFd | ldMapFdVal | ldVarAddr | ldCodeAddr | ldMapIdx | ldMapIdxVal => exact .of_wideForm h
  | ldAbsW | ldAbsH | ldAbsB | ldAbsDw | ldIndW | ldIndH | ldIndB | ldIndDw => exact absurd h (raise_ne_next _ _)

/-- No effect names the launch parameters (R5, R40). -/
theorem Effect.params_eq {s t : State} (h : Effect s t) : t.params = s.params := by
  cases h <;> rfl

theorem exec_params {i : Instr} {s t : State} (h : exec i s = .next t) : t.params = s.params :=
  (exec_effect h).params_eq

/-! ## One step: fetch, execute, the other agents' turn -/

theorem fetch_of_decode {s : State} {a : Slot} {i : Instr} (ha : s.slotAt s.pc = some a)
    (hd : decode s.params.endian a (s.slotAt (s.pc + 1)) = .ok i) : fetch s = .ok i := by
  simp [fetch, ha, hd]

theorem step_of_fetch {s : State} {i : Instr} (hr : s.status = .running) (hf : fetch s = .ok i) :
    step s = othersFollow (exec i s) := by
  simp [step, hr, hf]

/-- The other agents' turn changes memory and its own counter, nothing else. -/
theorem State.othersAct_frame (s : State) :
    s.othersAct = { s with mem := s.othersAct.mem, turns := s.othersAct.turns } := by
  rcases s.othersAct_eq with e | ⟨_, -, -, e⟩ <;> rw [e]

theorem State.othersAct_of_ended {s : State} (h : s.status ≠ .running) : s.othersAct = s := by
  simp [State.othersAct, h]

/-- Without other agents a turn after an instruction is no turn: no instruction can bring agents in. -/
theorem othersFollow_exec_of_alone {s : State} (h : s.params.externalAgents = false) (i : Instr) :
    othersFollow (exec i s) = exec i s := by
  cases hx : exec i s with
  | next t =>
    have ht : t.params.externalAgents = false := by rw [exec_params hx, h]
    rw [othersFollow, State.othersAct_of_alone ht]
  | fault k => rfl
  | refused r => rfl

/-- Settles O8: the step is `exec` followed by the other agents' turn, and each clause is a law of that turn. -/
theorem stepRunsDecodedInstruction : Obligations.StepRunsDecodedInstruction := by
  intro s a i hrun ha hd _
  have hstep : step s = othersFollow (exec i s) := step_of_fetch hrun (fetch_of_decode ha hd)
  rw [hstep]
  refine ⟨fun halone => othersFollow_exec_of_alone halone i, fun k hk => othersFollow_fault.mpr hk, fun t ht => ?_⟩
  exact ⟨t.othersAct, othersFollow_next.mpr ⟨t, ht, rfl⟩, t.othersAct_frame, fun _ => State.read_othersAct,
    State.othersAct_of_ended⟩

/-- Settles O60, by whether the register read is the one written (R11). -/
theorem registerWriteReadsBack : Obligations.RegisterWriteReadsBack := by
  intro s r q v
  split
  · next h => rw [h, State.reg_setReg_same]
  · next h => exact State.reg_setReg_other s v h

end Sys2Proof.Machine

/-! ## Decoding what the encoder writes

On the fields of a term the decoder's choice of a row and its checks of unused fields come out by computation. What is
left are the register fields, in the order in which the row asks for them. -/

namespace Sys2Proof

/-- What the decoder answers to the encoding of a term (R44, R157). -/
def Instr.decoded (i : Instr) : Except Illegal Instr :=
  if i.wf = true then .ok i else .error .writesFramePointer

theorem Instr.decoded_of_wf {i : Instr} (h : i.wf = true) : i.decoded = .ok i := if_pos h

theorem Instr.decoded_of_not_wf {i : Instr} (h : i.wf = false) : i.decoded = .error .writesFramePointer := by
  simp [Instr.decoded, h]

/-- A written register field on what the encoder puts there: the one check that an encoding can fail. -/
theorem writeField_of_num (name : FieldName) (r : Reg) (rest : Reg → Except Illegal Instr) :
    writeField name r.num rest = if r.writable = true then rest r else .error .writesFramePointer := by
  simp [writeField]

theorem readField_readField_num (n₁ n₂ : FieldName) (r q : Reg) (rest : Reg → Reg → Except Illegal Instr) :
    (readField n₁ r.num fun d => readField n₂ q.num fun s => rest d s) = rest r q := by
  simp

theorem writeField_readField_num (n₁ n₂ : FieldName) (r q : Reg) (rest : Reg → Reg → Except Illegal Instr) :
    (writeField n₁ r.num fun d => readField n₂ q.num fun s => rest d s) =
      if r.writable = true then rest r q else .error .writesFramePointer := by
  simp [writeField_of_num]

theorem readField_writeField_num (n₁ n₂ : FieldName) (r q : Reg) (rest : Reg → Reg → Except Illegal Instr) :
    (readField n₁ r.num fun d => writeField n₂ q.num fun s => rest d s) =
      if q.writable = true then rest r q else .error .writesFramePointer := by
  simp [writeField_of_num]

/-- The decoder on the fields of any term, whatever slot follows those of the term: one case for each way of asking for
register fields. The class is cut out of the opcode byte, and Lean computes it only with every definition unfolded. -/
theorem decodeFields_fields (i : Instr) (after : Option Fields) :
    decodeFields i.fields (i.secondFields.or after) = i.decoded := by
  with_unfolding_all cases i with
  | add64Imm | sub64Imm | mul64Imm | div64Imm | sdiv64Imm | or64Imm | and64Imm | lsh64Imm | rsh64Imm | mod64Imm
  | smod64Imm | xor64Imm | mov64Imm | arsh64Imm | neg64
  | add32Imm | sub32Imm | mul32Imm | div32Imm | sdiv32Imm | or32Imm | and32Imm | lsh32Imm | rsh32Imm | mod32Imm
  | smod32Imm | xor32Imm | mov32Imm | arsh32Imm | neg32
  | le16 | le32 | le64 | be16 | be32 | be64 | bswap16 | bswap32 | bswap64
  | ldImm64 | ldMapFd | ldMapFdVal | ldVarAddr | ldCodeAddr | ldMapIdx | ldMapIdxVal =>
    exact writeField_of_num _ _ _
  | add64Reg | sub64Reg | mul64Reg | div64Reg | sdiv64Reg | or64Reg | and64Reg | lsh64Reg | rsh64Reg | mod64Reg
  | smod64Reg | xor64Reg | mov64Reg | movsx64From8 | movsx64From16 | movsx64From32 | arsh64Reg
  | add32Reg | sub32Reg | mul32Reg | div32Reg | sdiv32Reg | or32Reg | and32Reg | lsh32Reg | rsh32Reg | mod32Reg
  | smod32Reg | xor32Reg | mov32Reg | movsx32From8 | movsx32From16 | arsh32Reg
  | ldxW | ldxH | ldxB | ldxDw | ldxsxW | ldxsxH | ldxsxB =>
    exact writeField_readField_num _ _ _ _ _
  | jeq64Imm | jgt64Imm | jge64Imm | jset64Imm | jne64Imm | jsgt64Imm | jsge64Imm | jlt64Imm | jle64Imm | jslt64Imm
  | jsle64Imm | jeq32Imm | jgt32Imm | jge32Imm | jset32Imm | jne32Imm | jsgt32Imm | jsge32Imm | jlt32Imm | jle32Imm
  | jslt32Imm | jsle32Imm | stW | stH | stB | stDw =>
    exact readField_num _ _ _
  | jeq64Reg | jgt64Reg | jge64Reg | jset64Reg | jne64Reg | jsgt64Reg | jsge64Reg | jlt64Reg | jle64Reg | jslt64Reg
  | jsle64Reg | jeq32Reg | jgt32Reg | jge32Reg | jset32Reg | jne32Reg | jsgt32Reg | jsge32Reg | jlt32Reg | jle32Reg
  | jslt32Reg | jsle32Reg | stxW | stxH | stxB | stxDw
  | atomicAdd32 | atomicOr32 | atomicAnd32 | atomicXor32 | atomicCmpxchg32
  | atomicAdd64 | atomicOr64 | atomicAnd64 | atomicXor64 | atomicCmpxchg64 =>
    exact readField_readField_num _ _ _ _ _
  | atomicFetchAdd32 | atomicFetchOr32 | atomicFetchAnd32 | atomicFetchXor32 | atomicXchg32
  | atomicFetchAdd64 | atomicFetchOr64 | atomicFetchAnd64 | atomicFetchXor64 | atomicXchg64 =>
    exact readField_writeField_num _ _ _ _ _
  | ja | ja32 | callHelper | callLocal | callBtf | exit
  | ldAbsW | ldAbsH | ldAbsB | ldAbsDw | ldIndW | ldIndH | ldIndB | ldIndDw =>
    rfl

/-- The decoder on the slots of any term, whatever slot follows them. -/
theorem decode_slots (e : Endian) (i : Instr) (after : Option Slot) :
    decode e (i.fields.toSlot e) ((i.secondFields.map (Fields.toSlot e)).or after) = i.decoded := by
  have hid : Fields.ofSlot e ∘ Fields.toSlot e = id := funext fun f => Fields.ofSlot_toSlot e f
  simp only [decode, Fields.ofSlot_toSlot, Option.map_or, Option.map_map, hid, Option.map_id_fun, id]
  exact decodeFields_fields i _

/-- Settles O5: of all the checks of the decoder an encoding can fail the one on the written register alone. -/
theorem framePointerWritesAreRefused : Obligations.FramePointerWritesAreRefused := by
  intro e i hwf
  calc decode e (i.fields.toSlot e) (i.secondFields.map (Fields.toSlot e))
      = i.decoded := by simpa using decode_slots e i none
    _ = .error .writesFramePointer := i.decoded_of_not_wf hwf

end Sys2Proof

namespace Sys2Proof.Machine

/-- The slots of `PROGRAM` that stand behind `before`. -/
theorem State.slotAt_append {s : State} {before rest : List Slot} (hp : s.params.program = before ++ rest) (k : Nat) :
    s.slotAt (before.length + k) = rest[k]? := by
  have hneg : ¬ ((before.length : Int) + k < 0) := by omega
  have hnat : ((before.length : Int) + k).toNat = before.length + k := by omega
  rw [State.slotAt, if_neg hneg, hp, hnat, List.getElem?_append_right (by omega), Nat.add_sub_cancel_left]

/-- The fetch reads a placed encoding back (R162). -/
theorem fetch_placed {s : State} {i : Instr} {before after : List Slot} (hwf : i.wf = true)
    (hp : s.params.program = before ++ encode s.params.endian i ++ after) (hpc : s.pc = before.length) :
    fetch s = .ok i := by
  rw [List.append_assoc] at hp
  have hfirst : s.slotAt s.pc = some (i.fields.toSlot s.params.endian) := by
    simpa [hpc, encode] using State.slotAt_append hp 0
  have hsecond : s.slotAt (s.pc + 1) = (i.secondFields.map (Fields.toSlot s.params.endian)).or after.head? := by
    have h := State.slotAt_append hp 1
    cases hs : i.secondFields <;> simpa [hpc, encode, hs, List.head?_eq_getElem?] using h
  refine fetch_of_decode hfirst ?_
  rw [hsecond, decode_slots, i.decoded_of_wf hwf]

/-- Settles O9: the fetch answers the placed instruction. -/
theorem stepRunsPlacedEncoding : Obligations.StepRunsPlacedEncoding := by
  intro s i before after hrun hwf hp hpc
  exact step_of_fetch hrun (fetch_placed hwf hp hpc)

/-! ## The end of a run -/

theorem step_of_ended {s : State} (h : s.status ≠ .running) : step s = .refused .runEnded := by
  unfold step
  cases hs : s.status with
  | running => exact absurd hs h
  | exited v => rfl
  | faulted k => rfl

theorem advance_of_ended {s : State} (h : s.status ≠ .running) : s.advance = s := by
  rw [State.advance, step_of_ended h]

/-- Settles O13, by induction on the number of steps. -/
theorem endedRunStaysAsItIs : Obligations.EndedRunStaysAsItIs := by
  intro s h
  refine ⟨step_of_ended h, fun n => ?_⟩
  induction n with
  | zero => rfl
  | succ n ih => rw [State.run, advance_of_ended h, ih]

/-! ## What holds of the state after an instruction, whatever it reads

`Post P x` is a postcondition of a meaning `x`. Its rules follow the shared operations, so that a proof about a meaning
reads in the meaning's own order. -/

/-- If `x` completes, `P` holds of the next state. -/
def Post (P : State → Prop) (x : Result) : Prop := ∀ t, x = .next t → P t

section Rules

variable {P : State → Prop} {s : State}

theorem Post.next {t : State} (h : P t) : Post P (.next t) := fun _ e => next_eq_next.mp e ▸ h

theorem Post.raise (k : Fault) : Post P (raise k) := fun _ e => absurd e (raise_ne_next _ _)

theorem Post.guardWrite {r : Reg} {x : Result} (h : Post P x) : Post P (guardWrite s r x) :=
  fun t e => h t (guardWrite_next.mp e).2

theorem Post.readReg {r : Reg} {f : Word → Result} (h : ∀ v, Post P (f v)) : Post P (readReg s r f) := fun t e =>
  let ⟨v, _, hv⟩ := readReg_next.mp e
  h v t hv

theorem Post.checkAccess {aligned : Bool} {kind : AccessKind} {addr : Word} {n : Nat} {x : Result} (h : Post P x) :
    Post P (checkAccess s aligned kind addr n x) :=
  fun t e => h t (checkAccess_next.mp e).2.2

theorem Post.platform {value : Option Word} {subtype : BitVec 4} {imm : Word32} {f : Word → Result}
    (h : ∀ v, Post P (f v)) : Post P (platform value subtype imm f) := fun t e =>
  let ⟨v, _, hv⟩ := platform_next.mp e
  h v t hv

theorem Post.callHelperForm {kind : HelperKind} {imm : Word32}
    (h : ∀ regs mem, P { s with regs := regs, mem := mem, calls := s.calls + 1, pc := s.pc + 1 }) :
    Post P (callHelperForm kind imm s) := fun t e => by
  obtain ⟨_, -, -, _, _, -, -, rfl⟩ := callHelperForm_next.mp e
  exact h _ _

end Rules

/-! ## The control state: `pc`, the call stack, the run status -/

/-- `t` differs from `s` in no control state but `pc`, which is `n` higher. -/
structure Passes (n : Int) (s t : State) : Prop where
  pc : t.pc = s.pc + n
  frames : t.frames = s.frames
  status : t.status = s.status

/-- The opcode of a jump or of exit: class BPF_JMP32 or BPF_JMP, and not a call. -/
def isJumpOpcode (op : BitVec 8) : Bool :=
  (op.extractLsb' 0 3 == 6#3 || op.extractLsb' 0 3 == 5#3) && op != 0x85#8

/-- How a completed instruction `i` moves the control state from `s` to `t`. -/
inductive Flow (i : Instr) (s t : State) : Prop
  /-- past its own slots (R49) -/
  | straight (h : Passes i.slots s t)
  /-- by a jump, taken or not -/
  | jump (d : Int) (hj : isJumpOpcode i.fields.opcode = true) (h : Passes d s t)
  /-- into the callee (R407) -/
  | callLocal (imm : Word32) (hi : i = .callLocal imm) (h : t.status = s.status)
  /-- back to the caller or to the end of the run (R409) -/
  | exit (hi : i = .exit)

theorem execCallLocal_status (imm : Word32) (s : State) :
    Post (fun t => t.status = s.status) (execCallLocal imm s) := by
  unfold execCallLocal
  split
  · exact .raise _
  · exact .readReg fun _ => .next rfl

/-- One case for each shape of a meaning: its checks and reads in order, then the state it answers. -/
theorem exec_flow {i : Instr} {s t : State} (h : exec i s = .next t) : Flow i s t := by
  have straight (hx : Post (Passes i.slots s) (exec i s)) : Flow i s t := .straight (hx t h)
  have jump (hj : isJumpOpcode i.fields.opcode = true) (hx : Post (fun t => ∃ d, Passes d s t) (exec i s)) :
      Flow i s t :=
    let ⟨d, hd⟩ := hx t h
    .jump d hj hd
  cases i with
  | mov64Imm | mov32Imm | ldImm64 => exact straight (.guardWrite (.next ⟨rfl, rfl, rfl⟩))
  | add64Imm | sub64Imm | mul64Imm | div64Imm | sdiv64Imm | or64Imm | and64Imm | lsh64Imm | rsh64Imm | mod64Imm
  | smod64Imm | xor64Imm | arsh64Imm | neg64 | mov64Reg | movsx64From8 | movsx64From16 | movsx64From32
  | add32Imm | sub32Imm | mul32Imm | div32Imm | sdiv32Imm | or32Imm | and32Imm | lsh32Imm | rsh32Imm | mod32Imm
  | smod32Imm | xor32Imm | arsh32Imm | neg32 | mov32Reg | movsx32From8 | movsx32From16
  | le16 | le32 | le64 | be16 | be32 | be64 | bswap16 | bswap32 | bswap64 =>
    exact straight (.guardWrite (.readReg fun _ => .next ⟨rfl, rfl, rfl⟩))
  | add64Reg | sub64Reg | mul64Reg | div64Reg | sdiv64Reg | or64Reg | and64Reg | lsh64Reg | rsh64Reg | mod64Reg
  | smod64Reg | xor64Reg | arsh64Reg
  | add32Reg | sub32Reg | mul32Reg | div32Reg | sdiv32Reg | or32Reg | and32Reg | lsh32Reg | rsh32Reg | mod32Reg
  | smod32Reg | xor32Reg | arsh32Reg =>
    exact straight (.guardWrite (.readReg fun _ => .readReg fun _ => .next ⟨rfl, rfl, rfl⟩))
  | ldMapFd | ldMapFdVal | ldVarAddr | ldCodeAddr | ldMapIdx | ldMapIdxVal =>
    exact straight (.guardWrite (.platform fun _ => .next ⟨rfl, rfl, rfl⟩))
  | ldxW | ldxH | ldxB | ldxDw | ldxsxW | ldxsxH | ldxsxB =>
    exact straight (.guardWrite (.readReg fun _ => .checkAccess (.next ⟨rfl, rfl, rfl⟩)))
  | stW | stH | stB | stDw => exact straight (.readReg fun _ => .checkAccess (.next ⟨rfl, rfl, rfl⟩))
  | stxW | stxH | stxB | stxDw | atomicAdd32 | atomicOr32 | atomicAnd32 | atomicXor32
  | atomicAdd64 | atomicOr64 | atomicAnd64 | atomicXor64 =>
    exact straight (.readReg fun _ => .readReg fun _ => .checkAccess (.next ⟨rfl, rfl, rfl⟩))
  | atomicFetchAdd32 | atomicFetchOr32 | atomicFetchAnd32 | atomicFetchXor32 | atomicXchg32
  | atomicFetchAdd64 | atomicFetchOr64 | atomicFetchAnd64 | atomicFetchXor64 | atomicXchg64 =>
    exact straight (.guardWrite (.readReg fun _ => .readReg fun _ => .checkAccess (.next ⟨rfl, rfl, rfl⟩)))
  | atomicCmpxchg32 | atomicCmpxchg64 =>
    exact straight (.readReg fun _ => .readReg fun _ => .readReg fun _ => .checkAccess (.next ⟨rfl, rfl, rfl⟩))
  | callHelper | callBtf => exact straight (.callHelperForm fun _ _ => ⟨rfl, rfl, rfl⟩)
  | ldAbsW | ldAbsH | ldAbsB | ldAbsDw | ldIndW | ldIndH | ldIndB | ldIndDw => exact straight (.raise _)
  | ja | ja32 => exact jump (by with_unfolding_all rfl) (.next ⟨_, rfl, rfl, rfl⟩)
  | jeq64Imm | jgt64Imm | jge64Imm | jset64Imm | jne64Imm | jsgt64Imm | jsge64Imm | jlt64Imm | jle64Imm | jslt64Imm
  | jsle64Imm | jeq32Imm | jgt32Imm | jge32Imm | jset32Imm | jne32Imm | jsgt32Imm | jsge32Imm | jlt32Imm | jle32Imm
  | jslt32Imm | jsle32Imm =>
    exact jump (by with_unfolding_all rfl) (.readReg fun _ => .next ⟨_, rfl, rfl, rfl⟩)
  | jeq64Reg | jgt64Reg | jge64Reg | jset64Reg | jne64Reg | jsgt64Reg | jsge64Reg | jlt64Reg | jle64Reg | jslt64Reg
  | jsle64Reg | jeq32Reg | jgt32Reg | jge32Reg | jset32Reg | jne32Reg | jsgt32Reg | jsge32Reg | jlt32Reg | jle32Reg
  | jslt32Reg | jsle32Reg =>
    exact jump (by with_unfolding_all rfl) (.readReg fun _ => .readReg fun _ => .next ⟨_, rfl, rfl, rfl⟩)
  | callLocal imm => exact .callLocal imm rfl (execCallLocal_status imm s t h)
  | exit => exact .exit rfl

theorem not_isJumpOpcode {op : BitVec 8} (h : op.extractLsb' 0 3 = 6#3 ∨ op.extractLsb' 0 3 = 5#3 → op = 0x85#8) :
    isJumpOpcode op = false := by
  unfold isJumpOpcode
  by_cases hc : op.extractLsb' 0 3 = 6#3 ∨ op.extractLsb' 0 3 = 5#3
  · simp [h hc]
  · simp_all

/-- Only a program-local call and exit change the call stack (R54). -/
theorem exec_frames {i : Instr} {s t : State} (h : exec i s = .next t) (hcall : ∀ imm, i ≠ .callLocal imm)
    (hexit : i ≠ .exit) : t.frames = s.frames := by
  cases exec_flow h with
  | straight hp => exact hp.frames
  | jump d hj hp => exact hp.frames
  | callLocal imm hi hs => exact absurd hi (hcall imm)
  | exit hi => exact absurd hi hexit

/-- Only exit ends the run (R59). -/
theorem exec_status {i : Instr} {s t : State} (h : exec i s = .next t) (hexit : i ≠ .exit) : t.status = s.status := by
  cases exec_flow h with
  | straight hp => exact hp.status
  | jump d hj hp => exact hp.status
  | callLocal imm hi hs => exact hs
  | exit hi => exact absurd hi hexit

/-- `pc` moves past every instruction that is no jump, program-local call or exit (R49). -/
theorem exec_pc {i : Instr} {s t : State} (h : exec i s = .next t) (hcall : ∀ imm, i ≠ .callLocal imm)
    (hexit : i ≠ .exit) (hj : isJumpOpcode i.fields.opcode = false) : t.pc = s.pc + i.slots := by
  cases exec_flow h with
  | straight hp => exact hp.pc
  | jump d hj' hp => simp [hj] at hj'
  | callLocal imm hi hs => exact absurd hi (hcall imm)
  | exit hi => exact absurd hi hexit

/-- Settles O53, clause by clause from how each instruction moves the control state. -/
theorem controlStateFrame : Obligations.ControlStateFrame := by
  intro i s t h
  exact ⟨exec_frames h, exec_status h, fun hcall hexit hj => exec_pc h hcall hexit (not_isJumpOpcode hj),
    exec_params h⟩

/-- Of all effects only a call and a return, which change the call stack, name register 10 (R44). -/
theorem Effect.framePointer_eq {s t : State} (h : Effect s t) (hf : t.frames = s.frames) :
    t.reg .r10 = s.reg .r10 := by
  cases h with
  | setReg v n hr | load v n hr | fetchRmw v old hr ha =>
    exact State.reg_setReg_other _ _ (Reg.writable_iff _ |>.mp hr).symm
  | jump | store | rmw | helper | endRun => rfl
  | call d hd hfp => exact absurd hf (List.cons_ne_self _ _)
  | ret he => exact absurd (hf.trans he).symm (List.cons_ne_self _ _)

/-- What a completed step was: an instruction that completed, and the other agents' turn. -/
theorem step_next {s t : State} (h : step s = .next t) :
    ∃ i u, fetch s = .ok i ∧ exec i s = .next u ∧ t = u.othersAct := by
  unfold step at h
  split at h
  · split at h
    · exact nomatch h
    · next i hi =>
      obtain ⟨u, hu, rfl⟩ := othersFollow_next.mp h
      exact ⟨i, u, hi, hu, rfl⟩
  · exact nomatch h
  · exact nomatch h

/-- Settles O59: an instruction that leaves the call stack alone leaves register 10 alone. -/
theorem framePointerIsReadOnly : Obligations.FramePointerIsReadOnly := by
  intro s t hstep hne
  obtain ⟨i, u, hi, hu, rfl⟩ := step_next hstep
  refine ⟨i, hi, by_contra fun hno => hne ?_⟩
  have hexit : i ≠ .exit := fun e => hno (.inl e)
  have hcall : ∀ imm, i ≠ .callLocal imm := fun imm e => hno (.inr ⟨imm, e⟩)
  rw [State.reg_othersAct, (exec_effect hu).framePointer_eq (exec_frames hu hcall hexit)]

/-! ## The first register that holds no value -/

/-- `x` reads the registers `rs` in order before anything else can stop it (R46, R555). -/
def ReadsFirst (s : State) (rs : List Reg) (x : Result) : Prop :=
  ∀ r, rs.find? (fun q => (s.reg q).isNone) = some r → x = .fault (.unwrittenRegister r)

section Rules

variable {s : State} {r : Reg} {rs : List Reg}

theorem ReadsFirst.nil {x : Result} : ReadsFirst s [] x := nofun

theorem ReadsFirst.guardWrite {x : Result} (hr : r.writable = true) (h : ReadsFirst s rs x) :
    ReadsFirst s rs (guardWrite s r x) := by
  rwa [Machine.guardWrite, if_pos hr]

theorem ReadsFirst.readReg {f : Word → Result} (h : ∀ v, ReadsFirst s rs (f v)) :
    ReadsFirst s (r :: rs) (readReg s r f) := by
  intro q hq
  rw [List.find?_cons] at hq
  unfold Machine.readReg
  cases hv : s.reg r with
  | none =>
    simp only [hv, Option.isNone_none, Option.some.injEq] at hq
    rw [hq, raise]
  | some v =>
    simp only [hv, Option.isNone_some] at hq
    exact h v q hq

theorem ReadsFirst.callLocal {imm : Word32} (hd : s.activeFunctions ≠ s.params.maxCallDepth) :
    ReadsFirst s [.r10] (execCallLocal imm s) := by
  rw [execCallLocal, if_neg hd]
  exact .readReg fun _ => .nil

end Rules

/-- The registers that Safety names as read are those that the meaning reads, in its order. -/
theorem exec_readsFirst {i : Instr} {s : State} (hwf : i.wf = true)
    (hd : ∀ imm, i = .callLocal imm → s.activeFunctions ≠ s.params.maxCallDepth) :
    ReadsFirst s i.reads (exec i s) := by
  cases i with
  | mov64Imm | mov32Imm | ldImm64 | ldMapFd | ldMapFdVal | ldVarAddr | ldCodeAddr | ldMapIdx | ldMapIdxVal
  | callHelper | callBtf | ja | ja32 | ldAbsW | ldAbsH | ldAbsB | ldAbsDw | ldIndW | ldIndH | ldIndB | ldIndDw =>
    exact .nil
  | add64Imm | sub64Imm | mul64Imm | div64Imm | sdiv64Imm | or64Imm | and64Imm | lsh64Imm | rsh64Imm | mod64Imm
  | smod64Imm | xor64Imm | arsh64Imm | neg64 | mov64Reg | movsx64From8 | movsx64From16 | movsx64From32
  | add32Imm | sub32Imm | mul32Imm | div32Imm | sdiv32Imm | or32Imm | and32Imm | lsh32Imm | rsh32Imm | mod32Imm
  | smod32Imm | xor32Imm | arsh32Imm | neg32 | mov32Reg | movsx32From8 | movsx32From16
  | le16 | le32 | le64 | be16 | be32 | be64 | bswap16 | bswap32 | bswap64
  | ldxW | ldxH | ldxB | ldxDw | ldxsxW | ldxsxH | ldxsxB =>
    exact .guardWrite hwf (.readReg fun _ => .nil)
  | add64Reg | sub64Reg | mul64Reg | div64Reg | sdiv64Reg | or64Reg | and64Reg | lsh64Reg | rsh64Reg | mod64Reg
  | smod64Reg | xor64Reg | arsh64Reg
  | add32Reg | sub32Reg | mul32Reg | div32Reg | sdiv32Reg | or32Reg | and32Reg | lsh32Reg | rsh32Reg | mod32Reg
  | smod32Reg | xor32Reg | arsh32Reg
  | atomicFetchAdd32 | atomicFetchOr32 | atomicFetchAnd32 | atomicFetchXor32 | atomicXchg32
  | atomicFetchAdd64 | atomicFetchOr64 | atomicFetchAnd64 | atomicFetchXor64 | atomicXchg64 =>
    exact .guardWrite hwf (.readReg fun _ => .readReg fun _ => .nil)
  | jeq64Imm | jgt64Imm | jge64Imm | jset64Imm | jne64Imm | jsgt64Imm | jsge64Imm | jlt64Imm | jle64Imm | jslt64Imm
  | jsle64Imm | jeq32Imm | jgt32Imm | jge32Imm | jset32Imm | jne32Imm | jsgt32Imm | jsge32Imm | jlt32Imm | jle32Imm
  | jslt32Imm | jsle32Imm | stW | stH | stB | stDw | exit =>
    exact .readReg fun _ => .nil
  | jeq64Reg | jgt64Reg | jge64Reg | jset64Reg | jne64Reg | jsgt64Reg | jsge64Reg | jlt64Reg | jle64Reg | jslt64Reg
  | jsle64Reg | jeq32Reg | jgt32Reg | jge32Reg | jset32Reg | jne32Reg | jsgt32Reg | jsge32Reg | jlt32Reg | jle32Reg
  | jslt32Reg | jsle32Reg | stxW | stxH | stxB | stxDw
  | atomicAdd32 | atomicOr32 | atomicAnd32 | atomicXor32 | atomicAdd64 | atomicOr64 | atomicAnd64 | atomicXor64 =>
    exact .readReg fun _ => .readReg fun _ => .nil
  | atomicCmpxchg32 | atomicCmpxchg64 => exact .readReg fun _ => .readReg fun _ => .readReg fun _ => .nil
  | callLocal imm => exact .callLocal (hd imm rfl)

/-- Settles O50: each meaning begins with its reads, in the order of R555. -/
theorem unwrittenRegisterIsFirstFault : Obligations.UnwrittenRegisterIsFirstFault := by
  intro i s r hwf hr hd
  exact exec_readsFirst hwf hd r hr

/-! ## 32-bit instructions: upper halves -/

/-- The opcode of an instruction of class BPF_ALU other than byte swap (R250). -/
def isAlu32Opcode (op : BitVec 8) : Bool :=
  op.extractLsb' 0 3 == 4#3 && op.extractLsb' 4 4 != 0xd#4

/-- A 32-bit result stands in `r`, zero-extended (R47). -/
def HoldsZext (r : Reg) (t : State) : Prop := ∃ w, t.reg r = some (zext w)

theorem holdsZext_writeBack (r : Reg) (w : Word32) (s : State) : Post (HoldsZext r) (writeBack r (zext w) s) :=
  .next ⟨w, State.reg_setReg_same s r _⟩

theorem exec_alu32_zext {i : Instr} (s : State) (hi : isAlu32Opcode i.fields.opcode = true) :
    ∃ r, i.writes = [r] ∧ Post (HoldsZext r) (exec i s) := by
  cases i with
  | mov32Imm => exact ⟨_, rfl, .guardWrite (holdsZext_writeBack _ _ _)⟩
  | add32Imm | sub32Imm | mul32Imm | div32Imm | sdiv32Imm | or32Imm | and32Imm | lsh32Imm | rsh32Imm | mod32Imm
  | smod32Imm | xor32Imm | arsh32Imm | neg32 | mov32Reg | movsx32From8 | movsx32From16 =>
    exact ⟨_, rfl, .guardWrite (.readReg fun _ => holdsZext_writeBack _ _ _)⟩
  | add32Reg | sub32Reg | mul32Reg | div32Reg | sdiv32Reg | or32Reg | and32Reg | lsh32Reg | rsh32Reg | mod32Reg
  | smod32Reg | xor32Reg | arsh32Reg =>
    exact ⟨_, rfl, .guardWrite (.readReg fun _ => .readReg fun _ => holdsZext_writeBack _ _ _)⟩
  | _ => simp [isAlu32Opcode, Instr.fields] at hi

/-- Settles O27: every result of the class is a zero-extended 32-bit word. -/
theorem alu32ZeroesUpperHalf : Obligations.Alu32ZeroesUpperHalf := by
  intro s t i hclass hend h
  obtain ⟨r, hw, hpost⟩ := exec_alu32_zext (i := i) s (by simp [isAlu32Opcode, hclass, hend])
  obtain ⟨w, hr⟩ := hpost t h
  exact ⟨r, zext w, hw, hr, by rw [toNat_zext]; exact w.isLt⟩

/-- The opcode of an instruction of class BPF_JMP32 (R362). -/
def isJump32Opcode (op : BitVec 8) : Bool := op.extractLsb' 0 3 == 6#3

/-- `u` differs from `s` in the upper halves of registers alone. -/
structure SameLow (s u : State) : Prop where
  rest : u = { s with regs := u.regs }
  low : ∀ r, (u.reg r).map low32 = (s.reg r).map low32

/-- Where `x` completes so does `y`, in a state that differs in registers alone, and not in those of `W`. -/
def AgreeOn (W : List Reg) (x y : Result) : Prop :=
  ∀ t, x = .next t → ∃ v, y = .next v ∧ v = { t with regs := v.regs } ∧ ∀ r ∈ W, v.reg r = t.reg r

section Rules

variable {W : List Reg} {s u : State} {r : Reg}

theorem AgreeOn.guardWrite {x y : Result} (h : AgreeOn W x y) :
    AgreeOn W (guardWrite s r x) (guardWrite u r y) := by
  intro t hx
  obtain ⟨hr, hx⟩ := guardWrite_next.mp hx
  obtain ⟨v, hy, hv⟩ := h t hx
  exact ⟨v, guardWrite_next.mpr ⟨hr, hy⟩, hv⟩

theorem AgreeOn.readReg {f g : Word → Result} (hsu : SameLow s u)
    (h : ∀ a b, low32 b = low32 a → AgreeOn W (f a) (g b)) : AgreeOn W (readReg s r f) (readReg u r g) := by
  intro t hx
  obtain ⟨a, ha, hx⟩ := readReg_next.mp hx
  obtain ⟨b, hb, hlow⟩ : ∃ b, u.reg r = some b ∧ low32 b = low32 a := by
    simpa [ha] using hsu.low r
  obtain ⟨v, hy, hv⟩ := h a b hlow t hx
  exact ⟨v, readReg_next.mpr ⟨b, hb, hy⟩, hv⟩

theorem AgreeOn.writeBack {a b : Word} (hsu : SameLow s u) (h : b = a) :
    AgreeOn [r] (writeBack r a s) (writeBack r b u) := by
  intro t hx
  obtain rfl := writeBack_next.mp hx
  refine ⟨_, rfl, ?_, ?_⟩
  · rw [hsu.rest]; rfl
  · simp [h]

theorem AgreeOn.branch {c d : Bool} {n : Int} (hsu : SameLow s u) (h : d = c) :
    AgreeOn [] (branch c n s) (branch d n u) := by
  intro t hx
  obtain rfl := branch_next.mp hx
  refine ⟨_, rfl, ?_, nofun⟩
  rw [hsu.rest, h]; rfl

end Rules

theorem setWidth_eq_of_low32_eq {a b : Word} {n : Nat} (hn : n ≤ 32) (h : low32 b = low32 a) :
    b.setWidth n = a.setWidth n := by
  have through (w : Word) : (low32 w).setWidth n = w.setWidth n := BitVec.setWidth_setWidth_of_le w hn
  rw [← through, h, through]

theorem exec_alu32_agree {i : Instr} {s u : State} (hsu : SameLow s u) (hi : isAlu32Opcode i.fields.opcode = true) :
    AgreeOn i.writes (exec i s) (exec i u) := by
  cases i with
  | mov32Imm => exact .guardWrite (.writeBack hsu rfl)
  | add32Imm | sub32Imm | mul32Imm | div32Imm | sdiv32Imm | or32Imm | and32Imm | lsh32Imm | rsh32Imm | mod32Imm
  | smod32Imm | xor32Imm | arsh32Imm | neg32 | mov32Reg =>
    exact .guardWrite (.readReg hsu fun a b e => .writeBack hsu (by simp only [e]))
  | movsx32From8 | movsx32From16 =>
    exact .guardWrite (.readReg hsu fun a b e => .writeBack hsu (by
      simp only [setWidth_eq_of_low32_eq _ e, Nat.reduceLeDiff]))
  | add32Reg | sub32Reg | mul32Reg | div32Reg | sdiv32Reg | or32Reg | and32Reg | lsh32Reg | rsh32Reg | mod32Reg
  | smod32Reg | xor32Reg | arsh32Reg =>
    exact .guardWrite (.readReg hsu fun a b e => .readReg hsu fun c d e' => .writeBack hsu (by rw [e, e']))
  | _ => simp [isAlu32Opcode, Instr.fields] at hi

theorem exec_jump32_agree {i : Instr} {s u : State} (hsu : SameLow s u) (hi : isJump32Opcode i.fields.opcode = true) :
    AgreeOn i.writes (exec i s) (exec i u) := by
  cases i with
  | ja32 => exact .branch hsu rfl
  | jeq32Imm | jgt32Imm | jge32Imm | jset32Imm | jne32Imm | jsgt32Imm | jsge32Imm | jlt32Imm | jle32Imm | jslt32Imm
  | jsle32Imm =>
    exact .readReg hsu fun a b e => .branch hsu (by rw [e])
  | jeq32Reg | jgt32Reg | jge32Reg | jset32Reg | jne32Reg | jsgt32Reg | jsge32Reg | jlt32Reg | jle32Reg | jslt32Reg
  | jsle32Reg =>
    exact .readReg hsu fun a b e => .readReg hsu fun c d e' => .branch hsu (by rw [e, e'])
  | _ => simp [isJump32Opcode, Instr.fields] at hi

/-- Settles O26: each meaning of the two classes uses the low half of what it reads. -/
theorem alu32IgnoresUpperHalves : Obligations.Alu32IgnoresUpperHalves := by
  intro s u i t hrest hlow hclass
  have hsu : SameLow s u := ⟨hrest, hlow⟩
  rcases hclass with hj | ⟨ha, hend⟩
  · exact exec_jump32_agree hsu (by simp [isJump32Opcode, hj]) t
  · exact exec_alu32_agree hsu (by simp [isAlu32Opcode, ha, hend]) t

end Sys2Proof.Machine

/-! ## Bytes that a completed instruction may write -/

namespace Sys2Proof.Machine

/-- Each byte of an access admitted for writing may be written alone (R91). -/
theorem State.admitted_write_byte {s : State} {kind : AccessKind} {b n a : Nat} (h : s.admitted kind b n)
    (hk : kind ≠ .read) (hl : b ≤ a) (hu : a < b + n) : s.admitted .write a 1 := by
  obtain ⟨hn, r, hr, hbase, hend, hp⟩ := h
  refine ⟨by omega, r, hr, by omega, by omega, ?_⟩
  cases kind with
  | read => exact absurd rfl hk
  | write => exact hp
  | readWrite => exact hp.2

/-- A store to admitted bytes leaves a byte that lies in no writable region. -/
theorem State.read_store_unwritable {s : State} {kind : AccessKind} {b n a : Nat} {v : Word}
    (ha : s.params.admits kind b n = true) (hk : kind ≠ .read) (hno : ¬ s.admitted .write a 1) :
    (s.store b n v).mem.read a = s.mem.read a := by
  have hout : a < b ∨ b + n ≤ a := by
    by_contra hin
    exact hno (State.admitted_write_byte (admits_iff_admitted.mp ha) hk (by omega) (by omega))
  exact (stored_store s b n v).2 a hout

/-- Every effect that writes memory has passed the admission of what it writes (R91, R403). -/
theorem Effect.read_unwritable {s t : State} {a : Nat} (h : Effect s t) (hno : ¬ s.admitted .write a 1) :
    t.mem.read a = s.mem.read a := by
  cases h with
  | setReg | jump | load | call | endRun | ret => rfl
  | store v ha => exact State.read_store_unwritable ha nofun hno
  | rmw v ha | fetchRmw v old hr ha => exact State.read_store_unwritable (s := s.drew _) ha nofun hno
  | helper r0 hw =>
    refine Memory.read_writeCells_outside _ _ fun c hc hca => hno ?_
    exact hca ▸ admits_iff_admitted.mp (hw c hc)

/-- Settles O55: neither the effect of the instruction nor the other agents' turn reaches the byte. -/
theorem unwritableMemoryNeverChanges : Obligations.UnwritableMemoryNeverChanges := by
  intro s t hstep a hno halone
  obtain ⟨i, u, -, hu, rfl⟩ := step_next hstep
  calc u.othersAct.mem.read a
      = u.mem.read a := State.read_othersAct (by rw [exec_params hu, halone])
    _ = s.mem.read a := (exec_effect hu).read_unwritable hno

theorem step_params {s t : State} (h : step s = .next t) : t.params = s.params := by
  obtain ⟨i, u, -, hu, rfl⟩ := step_next h
  rw [State.othersAct_params, exec_params hu]

/-- Settles O54: `PROGRAM` is one of the launch parameters, and no effect and no turn of other agents names them. -/
theorem programTextIsNeverWritten : Obligations.ProgramTextIsNeverWritten := by
  intro s t h
  have hp := step_params h
  exact ⟨hp, fun p => by rw [State.slotAt, State.slotAt, hp]⟩

/-! ## A load of bytes that were stored -/

/-- A word of `n` bytes is told by these bytes. -/
theorem eq_of_low_bytes_eq {v w : Word} {n : Nat} (hv : v.toNat < 2 ^ (8 * n)) (hw : w.toNat < 2 ^ (8 * n))
    (h : ∀ k, k < n → v.extractLsb' (8 * k) 8 = w.extractLsb' (8 * k) 8) : v = w := by
  apply BitVec.eq_of_getLsbD_eq
  intro j _
  by_cases hj : j < 8 * n
  · have hbyte := congrArg (fun b : Byte => b.getLsbD (j % 8)) (h (j / 8) (by omega))
    have hlt : j % 8 < 8 := Nat.mod_lt _ (by decide)
    simpa [hlt, Nat.div_add_mod] using hbyte
  · have hle : 2 ^ (8 * n) ≤ 2 ^ j := Nat.pow_le_pow_right (by decide) (by omega)
    rw [BitVec.getLsbD, BitVec.getLsbD, Nat.testBit_lt_two_pow (by omega), Nat.testBit_lt_two_pow (by omega)]

/-- A load of bytes with sure values gives the one value that has these bytes (R82). -/
theorem State.load_eq_of_bytes {s : State} {a n : Nat} {v : Word} (hn : n ≤ 8) (hv : v.toNat < 2 ^ (8 * n))
    (h : ∀ k, k < n → s.byteAt (a + bytePlace s.params.endian n k) = some (v.extractLsb' (8 * k) 8)) :
    s.load a n = v := by
  obtain ⟨hlt, hbytes⟩ := reads_load s a hn
  exact eq_of_low_bytes_eq hlt hv fun k hk => hbytes k hk _ (h k hk)

/-- `m` bytes of a word from its byte `q` on, zero-extended. -/
def bytesFrom (v : Word) (q m : Nat) : Word := (v.extractLsb' (8 * q) (8 * m)).setWidth 64

theorem toNat_bytesFrom_lt (v : Word) (q m : Nat) : (bytesFrom v q m).toNat < 2 ^ (8 * m) := by
  rw [bytesFrom, BitVec.toNat_setWidth]
  exact Nat.lt_of_le_of_lt (Nat.mod_le _ _) (BitVec.isLt _)

theorem byte_bytesFrom (v : Word) {q m k : Nat} (hm : m ≤ 8) (hk : k < m) :
    (bytesFrom v q m).extractLsb' (8 * k) 8 = v.extractLsb' (8 * (q + k)) 8 := by
  apply BitVec.eq_of_getLsbD_eq
  intro j hj
  have h64 : 8 * k + j < 64 := by omega
  have hm8 : 8 * k + j < 8 * m := by omega
  have hplace : 8 * q + (8 * k + j) = 8 * (q + k) + j := by omega
  simp only [bytesFrom, BitVec.getLsbD_extractLsb', BitVec.getLsbD_setWidth, hj, h64, hm8, hplace, decide_true,
    Bool.true_and]

theorem bytesFrom_zero (v : Word) (n : Nat) : bytesFrom v 0 n = BitVec.ofNat 64 (v.toNat % 2 ^ (8 * n)) := by
  apply BitVec.eq_of_toNat_eq
  simp [bytesFrom]

/-- A load of `m` bytes inside `n` bytes stored gives the bytes of the value that stand there, from its byte `q` on
(R82, R83). -/
theorem State.load_of_stored {s t : State} {a n j m q : Nat} {v : Word} (hs : s.stored t a n v) (hm : m ≤ 8)
    (hpriv : ∀ k, k < n → t.params.interferes (a + k) = false) (hq : q + m ≤ n)
    (hplace : ∀ k, k < m → j + bytePlace t.params.endian m k = bytePlace s.params.endian n (q + k)) :
    t.load (a + j) m = bytesFrom v q m := by
  refine State.load_eq_of_bytes hm (toNat_bytesFrom_lt v q m) fun k hk => ?_
  have hin : bytePlace s.params.endian n (q + k) < n := by
    unfold bytePlace; split <;> omega
  rw [byte_bytesFrom v hm hk, Nat.add_assoc, hplace k hk, State.byteAt, hpriv _ hin]
  exact hs.1 (q + k) (by omega)

theorem State.load_of_stored_little {s t : State} {a n j m : Nat} {v : Word} (hs : s.stored t a n v)
    (hp : t.params = s.params) (he : s.params.endian = .little) (hm : m ≤ 8)
    (hpriv : ∀ k, k < n → s.params.interferes (a + k) = false) (hj : j + m ≤ n) :
    t.load (a + j) m = bytesFrom v j m :=
  State.load_of_stored hs hm (hp ▸ hpriv) hj fun k _ => by simp only [hp, he, bytePlace]

theorem State.load_of_stored_big {s t : State} {a n j m q : Nat} {v : Word} (hs : s.stored t a n v)
    (hp : t.params = s.params) (he : s.params.endian = .big) (hm : m ≤ 8)
    (hpriv : ∀ k, k < n → s.params.interferes (a + k) = false) (hj : j + m + q = n) :
    t.load (a + j) m = bytesFrom v q m :=
  State.load_of_stored hs hm (hp ▸ hpriv) (by omega) fun k _ => by
    simp only [hp, he, bytePlace]
    omega

/-- What a completed store of a register did, where the contents of its registers are known. -/
theorem storeReg_next_of_regs {size : Size} {dst src : Reg} {off : BitVec 16} {base y : Word} {s t : State}
    (hb : s.reg dst = some base) (hy : s.reg src = some y) (h : storeReg size dst src off s = .next t) :
    (s.params.strictAlign = true → (effectiveAddress base off).toNat % size.bytes = 0) ∧
      t = (s.store (effectiveAddress base off).toNat size.bytes y).skip 1 := by
  obtain ⟨base', hb', y', hy', hst⟩ := storeReg_next.mp h
  obtain ⟨halign, -, ht⟩ := storeAt_next.mp hst
  obtain rfl : base' = base := Option.some.inj (hb'.symm.trans hb)
  obtain rfl : y' = y := Option.some.inj (hy'.symm.trans hy)
  exact ⟨halign, ht⟩

/-- A load from where a store of the same width stored gets back what was stored (R82, R96). -/
theorem loadForm_after_storeReg {size : Size} {dst src target : Reg} {off : BitVec 16} {base y : Word} {s t : State}
    (hb : s.reg dst = some base) (hy : s.reg src = some y) (htarget : target ≠ .r10)
    (hst : storeReg size dst src off s = .next t)
    (hread : s.admitted .read (effectiveAddress base off).toNat size.bytes)
    (hpriv : ∀ k, k < size.bytes → s.params.interferes ((effectiveAddress base off).toNat + k) = false) :
    ∃ u, loadForm size (fun v => v) target dst off t = .next u ∧
      u.reg target = some (BitVec.ofNat 64 (y.toNat % 2 ^ (8 * size.bytes))) := by
  obtain ⟨halign, rfl⟩ := storeReg_next_of_regs hb hy hst
  have hload := State.load_of_stored (j := 0) (q := 0) (m := size.bytes) (stored_store s _ _ y)
    (by cases size <;> decide) hpriv (by omega) fun k _ => by simp
  refine ⟨_, loadForm_next.mpr ⟨(Reg.writable_iff _).mpr htarget, base, hb, halign, ?_, rfl⟩, ?_⟩
  · exact admits_iff_admitted.mpr hread
  · rw [State.reg_skip, State.reg_setReg_same, ← bytesFrom_zero]
    exact congrArg some hload

/-- Settles O38: the four widths are one pair of forms. -/
theorem storeThenLoadReturnsValue : Obligations.StoreThenLoadReturnsValue := by
  intro s t dst src target off base y hb hy htarget
  exact ⟨loadForm_after_storeReg (size := .b) hb hy htarget, loadForm_after_storeReg (size := .h) hb hy htarget,
    loadForm_after_storeReg (size := .w) hb hy htarget, loadForm_after_storeReg (size := .dw) hb hy htarget⟩

/-- Settles O39: each read is of the bytes of the value from some byte on, which the byte order tells. -/
theorem mixedWidthViewOfMemory : Obligations.MixedWidthViewOfMemory := by
  intro s t dst src off base hb hy hst a hpriv
  obtain ⟨-, rfl⟩ := storeReg_next_of_regs (size := .dw) hb hy hst
  have hstored := stored_store s a 8 0x1122334455667788#64
  constructor
  · intro he
    have view (j m : Nat) (hj : j + m ≤ 8) := State.load_of_stored_little hstored rfl he (by omega) hpriv hj
    exact ⟨view 0 1 (by decide), view 0 2 (by decide), view 0 4 (by decide), view 4 4 (by decide)⟩
  · intro he
    have view (j m q : Nat) (hj : j + m + q = 8) := State.load_of_stored_big hstored rfl he (by omega) hpriv hj
    exact ⟨view 0 1 7 rfl, view 0 2 6 rfl, view 0 4 4 rfl, view 4 4 0 rfl⟩

/-! ## An access to data memory, from its checks to what it leaves unchanged -/

/-- `t` differs from `s` in no byte of memory but those that `x` accesses for writing at `addr`. -/
def OnlyWrites (s : State) (x : Access) (addr : Word) (t : State) : Prop :=
  ∀ a : Nat, (x.kind ≠ .read → a < addr.toNat ∨ addr.toNat + x.bytes ≤ a) → t.mem.read a = s.mem.read a

/-- `r` is the access `x` from `s`: the checks of R87, R88 and R91 at its address, and past them a next state. -/
def IsAccess (s : State) (x : Access) (r : Result) : Prop :=
  ∃ addr t, s.accessAddress x = some addr ∧ OnlyWrites s x addr t ∧
    r = checkAccess s (x.alwaysAligned || s.params.strictAlign) x.kind addr x.bytes (.next t)

/-- `r` is the access `x` from `s` where it completes, and where the two causes of a fault before the access are away
(R44, R555): `W` allows its write of a register, and the registers `rs`, which it reads, hold values. -/
def AccessUnder (W : Prop) (rs : List Reg) (s : State) (x : Access) (r : Result) : Prop :=
  (∃ t, r = .next t) ∨ (W ∧ ∀ q ∈ rs, (s.reg q).isSome = true) → IsAccess s x r

section Rules

variable {W : Prop} {rs : List Reg} {s t : State} {x : Access} {q : Reg} {base : Word}

theorem AccessUnder.guardWrite {r : Result} (hW : W → q.writable = true) (h : AccessUnder W rs s x r) :
    AccessUnder W rs s x (guardWrite s q r) := by
  intro hor
  have hq : q.writable = true := hor.elim (fun ⟨_, e⟩ => (guardWrite_next.mp e).1) fun hr => hW hr.1
  rw [Machine.guardWrite, if_pos hq] at hor ⊢
  exact h hor

theorem AccessUnder.readReg {f : Word → Result} (h : ∀ v, s.reg q = some v → AccessUnder W rs s x (f v)) :
    AccessUnder W (q :: rs) s x (readReg s q f) := by
  intro hor
  obtain ⟨v, hv⟩ : ∃ v, s.reg q = some v := by
    rcases hor with ⟨_, e⟩ | ⟨-, hrs⟩
    · exact (readReg_next.mp e).imp fun _ => And.left
    · exact Option.isSome_iff_exists.mp (hrs q List.mem_cons_self)
  have hf : Machine.readReg s q f = f v := by rw [Machine.readReg, hv]
  rw [hf] at hor ⊢
  exact h v hv (hor.imp_right fun ⟨hW, hrs⟩ => ⟨hW, fun p hp => hrs p (List.mem_cons_of_mem q hp)⟩)

theorem AccessUnder.load (hb : s.reg q = some base) {off : BitVec 16} {n : Nat} (hm : t.mem = s.mem) :
    AccessUnder W rs s ⟨.read, q, off, n, false⟩
      (checkAccess s s.params.strictAlign .read (effectiveAddress base off) n (.next t)) :=
  fun _ => ⟨_, t, by simp [State.accessAddress, hb], fun _ _ => by rw [hm], rfl⟩

/-- A store and an atomic operation write the same way: `t` is the state after `store`, but for registers and `pc`. -/
theorem AccessUnder.write (hb : s.reg x.base = some base) (hk : x.kind ≠ .read) (v : Word)
    (hm : t.mem = (s.store (effectiveAddress base x.offset).toNat x.bytes v).mem) :
    AccessUnder W rs s x (checkAccess s (x.alwaysAligned || s.params.strictAlign) x.kind
      (effectiveAddress base x.offset) x.bytes (.next t)) := by
  refine fun _ => ⟨_, t, by simp [State.accessAddress, hb], fun a ha => ?_, rfl⟩
  rw [hm]
  exact (stored_store s _ _ v).2 a (ha hk)

end Rules

/-- An instruction stops before its access at a write of register 10 or at a register without a value alone. -/
theorem exec_accessUnder {i : Instr} {x : Access} (s : State) (hx : i.access = some x) :
    AccessUnder (i.wf = true) i.reads s x (exec i s) := by
  cases i with
  | ldxW | ldxH | ldxB | ldxDw | ldxsxW | ldxsxH | ldxsxB =>
    cases hx
    exact .guardWrite id (.readReg fun _ hb => .load hb rfl)
  | stW | stH | stB | stDw =>
    cases hx
    exact .readReg fun _ hb => .write hb nofun _ rfl
  | stxW | stxH | stxB | stxDw | atomicAdd32 | atomicOr32 | atomicAnd32 | atomicXor32
  | atomicAdd64 | atomicOr64 | atomicAnd64 | atomicXor64 =>
    cases hx
    exact .readReg fun _ hb => .readReg fun _ _ => .write hb nofun _ rfl
  | atomicFetchAdd32 | atomicFetchOr32 | atomicFetchAnd32 | atomicFetchXor32 | atomicXchg32
  | atomicFetchAdd64 | atomicFetchOr64 | atomicFetchAnd64 | atomicFetchXor64 | atomicXchg64 =>
    cases hx
    exact .guardWrite id (.readReg fun _ hb => .readReg fun _ _ => .write hb nofun _ rfl)
  | atomicCmpxchg32 | atomicCmpxchg64 =>
    cases hx
    exact .readReg fun _ hb => .readReg fun _ _ => .readReg fun _ _ => .write hb nofun _ rfl
  | _ => simp [Instr.access] at hx

theorem alignedFor_iff {s : State} {x : Access} {a : Nat} :
    s.alignedFor x a ↔ ((x.alwaysAligned || s.params.strictAlign) = true → a % x.bytes = 0) := by
  rw [State.alignedFor, Bool.or_eq_true]

/-- Settles O37: past the reads each of these instructions is its access, and the three clauses are its checks. -/
theorem memoryInstructionOutcomes : Obligations.MemoryInstructionOutcomes := by
  intro i x s addr hx hwf hreads haddr
  obtain ⟨addr', t, haddr', -, hexec⟩ := exec_accessUnder s hx (.inr ⟨hwf, hreads⟩)
  obtain rfl : addr' = addr := Option.some.inj (haddr'.symm.trans haddr)
  rw [hexec, alignedFor_iff, ← admits_iff_admitted]
  refine ⟨fun hmis => ?_, fun halign hno => ?_, fun halign hadm => ⟨t, checkAccess_next.mpr ⟨halign, hadm, rfl⟩⟩⟩
  · rw [checkAccess, if_pos (Classical.not_imp.mp hmis), raise]
  · rw [checkAccess, if_neg fun h => h.2 (halign h.1), if_neg hno, raise]

theorem execCallLocal_mem (imm : Word32) (s : State) : Post (fun t => t.mem = s.mem) (execCallLocal imm s) := by
  unfold execCallLocal
  split
  · exact .raise _
  · exact .readReg fun _ => .next rfl

theorem execExit_mem (s : State) : Post (fun t => t.mem = s.mem) (execExit s) := by
  refine .readReg fun v => ?_
  split <;> exact .next rfl

/-- Of the instructions that access no data memory by themselves only helper calls change memory. -/
theorem exec_mem_of_no_access {i : Instr} (s : State) (hx : i.access = none)
    (hcall : ∀ imm, i ≠ .callHelper imm ∧ i ≠ .callBtf imm) : Post (fun t => t.mem = s.mem) (exec i s) := by
  cases i with
  | mov64Imm | mov32Imm | ldImm64 => exact .guardWrite (.next rfl)
  | add64Imm | sub64Imm | mul64Imm | div64Imm | sdiv64Imm | or64Imm | and64Imm | lsh64Imm | rsh64Imm | mod64Imm
  | smod64Imm | xor64Imm | arsh64Imm | neg64 | mov64Reg | movsx64From8 | movsx64From16 | movsx64From32
  | add32Imm | sub32Imm | mul32Imm | div32Imm | sdiv32Imm | or32Imm | and32Imm | lsh32Imm | rsh32Imm | mod32Imm
  | smod32Imm | xor32Imm | arsh32Imm | neg32 | mov32Reg | movsx32From8 | movsx32From16
  | le16 | le32 | le64 | be16 | be32 | be64 | bswap16 | bswap32 | bswap64 =>
    exact .guardWrite (.readReg fun _ => .next rfl)
  | add64Reg | sub64Reg | mul64Reg | div64Reg | sdiv64Reg | or64Reg | and64Reg | lsh64Reg | rsh64Reg | mod64Reg
  | smod64Reg | xor64Reg | arsh64Reg
  | add32Reg | sub32Reg | mul32Reg | div32Reg | sdiv32Reg | or32Reg | and32Reg | lsh32Reg | rsh32Reg | mod32Reg
  | smod32Reg | xor32Reg | arsh32Reg =>
    exact .guardWrite (.readReg fun _ => .readReg fun _ => .next rfl)
  | ldMapFd | ldMapFdVal | ldVarAddr | ldCodeAddr | ldMapIdx | ldMapIdxVal =>
    exact .guardWrite (.platform fun _ => .next rfl)
  | ja | ja32 => exact .next rfl
  | jeq64Imm | jgt64Imm | jge64Imm | jset64Imm | jne64Imm | jsgt64Imm | jsge64Imm | jlt64Imm | jle64Imm | jslt64Imm
  | jsle64Imm | jeq32Imm | jgt32Imm | jge32Imm | jset32Imm | jne32Imm | jsgt32Imm | jsge32Imm | jlt32Imm | jle32Imm
  | jslt32Imm | jsle32Imm =>
    exact .readReg fun _ => .next rfl
  | jeq64Reg | jgt64Reg | jge64Reg | jset64Reg | jne64Reg | jsgt64Reg | jsge64Reg | jlt64Reg | jle64Reg | jslt64Reg
  | jsle64Reg | jeq32Reg | jgt32Reg | jge32Reg | jset32Reg | jne32Reg | jsgt32Reg | jsge32Reg | jlt32Reg | jle32Reg
  | jslt32Reg | jsle32Reg =>
    exact .readReg fun _ => .readReg fun _ => .next rfl
  | ldAbsW | ldAbsH | ldAbsB | ldAbsDw | ldIndW | ldIndH | ldIndB | ldIndDw => exact .raise _
  | callLocal imm => exact execCallLocal_mem imm s
  | exit => exact execExit_mem s
  | callHelper imm => exact absurd rfl (hcall imm).1
  | callBtf imm => exact absurd rfl (hcall imm).2
  | _ => simp [Instr.access] at hx

/-- A completed instruction other than a helper call changes memory through its access alone. -/
theorem exec_onlyWrites {i : Instr} {s t : State} {x : Access} (h : exec i s = .next t) (hx : i.access = some x) :
    ∃ addr, s.accessAddress x = some addr ∧ OnlyWrites s x addr t := by
  obtain ⟨addr, u, haddr, honly, hexec⟩ := exec_accessUnder s hx (.inl ⟨t, h⟩)
  obtain ⟨-, -, hu⟩ := checkAccess_next.mp (hexec.symm.trans h)
  obtain rfl := next_eq_next.mp hu
  exact ⟨addr, haddr, honly⟩

/-- Settles O52, by whether the instruction accesses data memory. -/
theorem memoryFrame : Obligations.MemoryFrame := by
  intro i s t h hcall a hout
  have hread : t.mem.read a = s.mem.read a := by
    cases hx : i.access with
    | none => rw [exec_mem_of_no_access s hx hcall t h]
    | some x =>
      obtain ⟨addr, haddr, honly⟩ := exec_onlyWrites h hx
      exact honly a fun hk => hout x addr hx hk haddr
  rw [State.byteAt, State.byteAt, exec_params h, hread]

end Sys2Proof.Machine

/-! ## What the decoder answers an instruction to

`AnswersEncoding f second x` says of a part `x` of the decoder that an instruction it answers has the fields in hand.
Its rules follow the checks and the rows of R151, so that a row of an opcode map is settled by the rule of its format. -/

namespace Sys2Proof

/-- `f` are the first fields of `i`, and `second` begins with its second ones where `i` has any (R139). -/
def Instr.Encodes (i : Instr) (f : Fields) (second : Option Fields) : Prop :=
  f = i.fields ∧ second = i.secondFields.or second

/-- An instruction that `x` answers is encoded by `f`, followed by `second`. -/
def AnswersEncoding (f : Fields) (second : Option Fields) (x : Except Illegal Instr) : Prop :=
  ∀ i, x = .ok i → i.Encodes f second

section Rules

variable {f : Fields} {second : Option Fields} {i : Instr} {x y z w : Except Illegal Instr}

/-- The fields one by one, as the checks of the decoder find them. -/
theorem Instr.Encodes.of_fields {op : BitVec 8} {d s : BitVec 4} {o : BitVec 16} {n : Word32}
    (h : i.Encodes ⟨op, d, s, o, n⟩ second) (hop : f.opcode = op) (hd : f.dst = d) (hs : f.src = s)
    (ho : f.offset = o) (hn : f.imm = n) : i.Encodes f second := by
  subst hop hd hs ho hn
  exact h

namespace AnswersEncoding

theorem ok (h : i.Encodes f second) : AnswersEncoding f second (.ok i) := fun _ e => Except.ok.inj e ▸ h

theorem error (why : Illegal) : AnswersEncoding f second (.error why) := fun _ e => by cases e

theorem zeroDst (h : f.dst = 0#4 → AnswersEncoding f second x) : AnswersEncoding f second (zeroDst f x) :=
  fun i e => h (zeroDst_ok.mp e).1 i (zeroDst_ok.mp e).2

theorem zeroSrc (h : f.src = 0#4 → AnswersEncoding f second x) : AnswersEncoding f second (zeroSrc f x) :=
  fun i e => h (zeroSrc_ok.mp e).1 i (zeroSrc_ok.mp e).2

theorem zeroOffset (h : f.offset = 0#16 → AnswersEncoding f second x) : AnswersEncoding f second (zeroOffset f x) :=
  fun i e => h (zeroOffset_ok.mp e).1 i (zeroOffset_ok.mp e).2

theorem zeroImm (h : f.imm = 0#32 → AnswersEncoding f second x) : AnswersEncoding f second (zeroImm f x) :=
  fun i e => h (zeroImm_ok.mp e).1 i (zeroImm_ok.mp e).2

theorem readField {name : FieldName} {n : BitVec 4} {rest : Reg → Except Illegal Instr}
    (h : ∀ r : Reg, n = r.num → AnswersEncoding f second (rest r)) :
    AnswersEncoding f second (readField name n rest) := fun i e =>
  let ⟨r, hn, hr⟩ := readField_ok.mp e
  h r hn i hr

theorem writeField {name : FieldName} {n : BitVec 4} {rest : Reg → Except Illegal Instr}
    (h : ∀ r : Reg, n = r.num → AnswersEncoding f second (rest r)) :
    AnswersEncoding f second (writeField name n rest) := fun i e =>
  let ⟨r, hn, _, hr⟩ := writeField_ok.mp e
  h r hn i hr

theorem signSelector (h0 : f.offset = 0#16 → AnswersEncoding f second x)
    (h1 : f.offset = 1#16 → AnswersEncoding f second y) : AnswersEncoding f second (signSelector f x y) := by
  unfold Sys2Proof.signSelector
  split
  · exact h0 ‹_›
  · exact h1 ‹_›
  · exact error _

theorem moveSelector32 (h0 : f.offset = 0#16 → AnswersEncoding f second x)
    (h8 : f.offset = 8#16 → AnswersEncoding f second y) (h16 : f.offset = 16#16 → AnswersEncoding f second z) :
    AnswersEncoding f second (moveSelector32 f x y z) := by
  unfold Sys2Proof.moveSelector32
  split
  · exact h0 ‹_›
  · exact h8 ‹_›
  · exact h16 ‹_›
  · exact error _

theorem moveSelector64 (h0 : f.offset = 0#16 → AnswersEncoding f second x)
    (h8 : f.offset = 8#16 → AnswersEncoding f second y) (h16 : f.offset = 16#16 → AnswersEncoding f second z)
    (h32 : f.offset = 32#16 → AnswersEncoding f second w) :
    AnswersEncoding f second (moveSelector64 f x y z w) := by
  unfold Sys2Proof.moveSelector64
  split
  · exact h0 ‹_›
  · exact h8 ‹_›
  · exact h16 ‹_›
  · exact h32 ‹_›
  · exact error _

end AnswersEncoding

end Rules

/-! The rows of R151. `h` is what the rule of the term says of its encoding. -/

section Formats

variable {f : Fields} {second : Option Fields} {op : BitVec 8}

namespace AnswersEncoding

theorem aluK {make : Reg → Word32 → Instr} {o : BitVec 16} (hop : f.opcode = op) (ho : f.offset = o)
    (h : ∀ r n, (make r n).Encodes ⟨op, r.num, 0#4, o, n⟩ second) : AnswersEncoding f second (formatAluK f make) :=
  .zeroSrc fun hs => .writeField fun r hd => .ok ((h r f.imm).of_fields hop hd hs ho rfl)

theorem aluX {make : Reg → Reg → Instr} {o : BitVec 16} (hop : f.opcode = op) (ho : f.offset = o)
    (h : ∀ r q, (make r q).Encodes ⟨op, r.num, q.num, o, 0#32⟩ second) :
    AnswersEncoding f second (formatAluX f make) :=
  .zeroImm fun hn => .writeField fun r hd => .readField fun q hs => .ok ((h r q).of_fields hop hd hs ho hn)

theorem neg {make : Reg → Instr} (hop : f.opcode = op)
    (h : ∀ r, (make r).Encodes ⟨op, r.num, 0#4, 0#16, 0#32⟩ second) : AnswersEncoding f second (formatNeg f make) :=
  .zeroSrc fun hs => .zeroOffset fun ho => .zeroImm fun hn => .writeField fun r hd =>
    .ok ((h r).of_fields hop hd hs ho hn)

theorem swap {make16 make32 make64 : Reg → Instr} (hop : f.opcode = op)
    (h16 : ∀ r, (make16 r).Encodes ⟨op, r.num, 0#4, 0#16, 16#32⟩ second)
    (h32 : ∀ r, (make32 r).Encodes ⟨op, r.num, 0#4, 0#16, 32#32⟩ second)
    (h64 : ∀ r, (make64 r).Encodes ⟨op, r.num, 0#4, 0#16, 64#32⟩ second) :
    AnswersEncoding f second (formatEnd f make16 make32 make64) := by
  refine .zeroSrc fun hs => .zeroOffset fun ho => ?_
  split
  · exact .writeField fun r hd => .ok ((h16 r).of_fields hop hd hs ho ‹_›)
  · exact .writeField fun r hd => .ok ((h32 r).of_fields hop hd hs ho ‹_›)
  · exact .writeField fun r hd => .ok ((h64 r).of_fields hop hd hs ho ‹_›)
  · exact .error _

theorem ja {make : BitVec 16 → Instr} (hop : f.opcode = op)
    (h : ∀ o, (make o).Encodes ⟨op, 0#4, 0#4, o, 0#32⟩ second) : AnswersEncoding f second (formatJa f make) :=
  .zeroDst fun hd => .zeroSrc fun hs => .zeroImm fun hn => .ok ((h f.offset).of_fields hop hd hs rfl hn)

theorem ja32 {make : Word32 → Instr} (hop : f.opcode = op)
    (h : ∀ n, (make n).Encodes ⟨op, 0#4, 0#4, 0#16, n⟩ second) : AnswersEncoding f second (formatJa32 f make) :=
  .zeroDst fun hd => .zeroSrc fun hs => .zeroOffset fun ho => .ok ((h f.imm).of_fields hop hd hs ho rfl)

theorem jumpK {make : Reg → Word32 → BitVec 16 → Instr} (hop : f.opcode = op)
    (h : ∀ r n o, (make r n o).Encodes ⟨op, r.num, 0#4, o, n⟩ second) :
    AnswersEncoding f second (formatJumpK f make) :=
  .zeroSrc fun hs => .readField fun r hd => .ok ((h r f.imm f.offset).of_fields hop hd hs rfl rfl)

theorem jumpX {make : Reg → Reg → BitVec 16 → Instr} (hop : f.opcode = op)
    (h : ∀ r q o, (make r q o).Encodes ⟨op, r.num, q.num, o, 0#32⟩ second) :
    AnswersEncoding f second (formatJumpX f make) :=
  .zeroImm fun hn => .readField fun r hd => .readField fun q hs => .ok ((h r q f.offset).of_fields hop hd hs rfl hn)

theorem call {make : Word32 → Instr} {kind : BitVec 4} (hop : f.opcode = op) (hs : f.src = kind)
    (h : ∀ n, (make n).Encodes ⟨op, 0#4, kind, 0#16, n⟩ second) : AnswersEncoding f second (formatCall f make) :=
  .zeroDst fun hd => .zeroOffset fun ho => .ok ((h f.imm).of_fields hop hd hs ho rfl)

theorem noOperand {make : Instr} (hop : f.opcode = op)
    (h : make.Encodes ⟨op, 0#4, 0#4, 0#16, 0#32⟩ second) : AnswersEncoding f second (formatNone f make) :=
  .zeroDst fun hd => .zeroSrc fun hs => .zeroOffset fun ho => .zeroImm fun hn => .ok (h.of_fields hop hd hs ho hn)

theorem load {make : Reg → Reg → BitVec 16 → Instr} (hop : f.opcode = op)
    (h : ∀ r q o, (make r q o).Encodes ⟨op, r.num, q.num, o, 0#32⟩ second) :
    AnswersEncoding f second (formatLoad f make) :=
  .zeroImm fun hn => .writeField fun r hd => .readField fun q hs => .ok ((h r q f.offset).of_fields hop hd hs rfl hn)

theorem st {make : Reg → BitVec 16 → Word32 → Instr} (hop : f.opcode = op)
    (h : ∀ r o n, (make r o n).Encodes ⟨op, r.num, 0#4, o, n⟩ second) : AnswersEncoding f second (formatSt f make) :=
  .zeroSrc fun hs => .readField fun r hd => .ok ((h r f.offset f.imm).of_fields hop hd hs rfl rfl)

theorem stx {make : Reg → Reg → BitVec 16 → Instr} (hop : f.opcode = op)
    (h : ∀ r q o, (make r q o).Encodes ⟨op, r.num, q.num, o, 0#32⟩ second) :
    AnswersEncoding f second (formatStx f make) :=
  .jumpX hop h

theorem atomic {make : Reg → Reg → BitVec 16 → Instr} {n : Word32} (hop : f.opcode = op) (hn : f.imm = n)
    (h : ∀ r q o, (make r q o).Encodes ⟨op, r.num, q.num, o, n⟩ second) :
    AnswersEncoding f second (formatAtomic f make) :=
  .readField fun r hd => .readField fun q hs => .ok ((h r q f.offset).of_fields hop hd hs rfl hn)

theorem fetch {make : Reg → Reg → BitVec 16 → Instr} {n : Word32} (hop : f.opcode = op) (hn : f.imm = n)
    (h : ∀ r q o, (make r q o).Encodes ⟨op, r.num, q.num, o, n⟩ second) :
    AnswersEncoding f second (formatFetch f make) :=
  .readField fun r hd => .writeField fun q hs => .ok ((h r q f.offset).of_fields hop hd hs rfl hn)

theorem secondSlot {rest : Word32 → Except Illegal Instr}
    (h : ∀ n, second = some ⟨0#8, 0#4, 0#4, 0#16, n⟩ → AnswersEncoding f second (rest n)) :
    AnswersEncoding f second (secondSlot second rest) := fun i e =>
  let ⟨n, hn, hr⟩ := secondSlot_ok.mp e
  h n hn i hr

theorem wideNext {make : Reg → Word32 → Word32 → Instr} {subtype : BitVec 4} (hop : f.opcode = op)
    (hs : f.src = subtype)
    (h : ∀ r n m, (make r n m).Encodes ⟨op, r.num, subtype, 0#16, n⟩ (some ⟨0#8, 0#4, 0#4, 0#16, m⟩)) :
    AnswersEncoding f second (formatWideNext f second make) :=
  .zeroOffset fun ho => .writeField fun r hd => .secondSlot fun m hm =>
    .ok (hm ▸ (h r f.imm m).of_fields hop hd hs ho rfl)

theorem wide {make : Reg → Word32 → Instr} {subtype : BitVec 4} (hop : f.opcode = op) (hs : f.src = subtype)
    (h : ∀ r n, (make r n).Encodes ⟨op, r.num, subtype, 0#16, n⟩ (some ⟨0#8, 0#4, 0#4, 0#16, 0#32⟩)) :
    AnswersEncoding f second (formatWide f second make) := by
  refine .zeroOffset fun ho => .writeField fun r hd => .secondSlot fun m hm => ?_
  split
  · next hz =>
    subst hz hm
    exact .ok ((h r f.imm).of_fields hop hd hs ho rfl)
  · exact .error _

end AnswersEncoding

end Formats

/-! The opcode maps, all rows of one format at a time. Formats are told apart by name (`with_reducible`), not by their
checks; what is left of each row is the encoding line of its rule, which computes. -/

section Maps

variable {f : Fields} {second : Option Fields}

theorem decodeAtomic32_answersEncoding (hop : f.opcode = 0xc3#8) : AnswersEncoding f second (decodeAtomic32 f) := by
  unfold decodeAtomic32
  split
  any_goals with_reducible refine AnswersEncoding.atomic hop ‹_› fun _ _ _ => ?_
  any_goals with_reducible refine AnswersEncoding.fetch hop ‹_› fun _ _ _ => ?_
  any_goals with_reducible exact AnswersEncoding.error _
  all_goals exact ⟨rfl, rfl⟩

theorem decodeAtomic64_answersEncoding (hop : f.opcode = 0xdb#8) : AnswersEncoding f second (decodeAtomic64 f) := by
  unfold decodeAtomic64
  split
  any_goals with_reducible refine AnswersEncoding.atomic hop ‹_› fun _ _ _ => ?_
  any_goals with_reducible refine AnswersEncoding.fetch hop ‹_› fun _ _ _ => ?_
  any_goals with_reducible exact AnswersEncoding.error _
  all_goals exact ⟨rfl, rfl⟩

theorem decodeCall_answersEncoding (hop : f.opcode = 0x85#8) : AnswersEncoding f second (decodeCall f) := by
  unfold decodeCall
  split
  any_goals with_reducible refine AnswersEncoding.call hop ‹_› fun _ => ?_
  any_goals with_reducible exact AnswersEncoding.error _
  all_goals exact ⟨rfl, rfl⟩

theorem decodeWide_answersEncoding (hop : f.opcode = 0x18#8) : AnswersEncoding f second (decodeWide f second) := by
  unfold decodeWide
  split
  any_goals with_reducible refine AnswersEncoding.wideNext hop ‹_› fun _ _ _ => ?_
  any_goals with_reducible refine AnswersEncoding.wide hop ‹_› fun _ _ => ?_
  any_goals with_reducible exact AnswersEncoding.error _
  all_goals exact ⟨rfl, rfl⟩

theorem decodeLd_answersEncoding : AnswersEncoding f second (decodeLd f second) := by
  unfold decodeLd
  split
  any_goals with_reducible exact decodeWide_answersEncoding ‹_›
  any_goals exact AnswersEncoding.ok (Instr.Encodes.of_fields ⟨rfl, rfl⟩ ‹_› rfl rfl rfl rfl)
  exact .error _

theorem decodeLdx_answersEncoding : AnswersEncoding f second (decodeLdx f) := by
  unfold decodeLdx
  split
  any_goals with_reducible refine AnswersEncoding.load ‹_› fun _ _ _ => ?_
  any_goals with_reducible exact AnswersEncoding.error _
  all_goals exact ⟨rfl, rfl⟩

theorem decodeSt_answersEncoding : AnswersEncoding f second (decodeSt f) := by
  unfold decodeSt
  split
  any_goals with_reducible refine AnswersEncoding.st ‹_› fun _ _ _ => ?_
  any_goals with_reducible exact AnswersEncoding.error _
  all_goals exact ⟨rfl, rfl⟩

theorem decodeStx_answersEncoding : AnswersEncoding f second (decodeStx f) := by
  unfold decodeStx
  split
  any_goals with_reducible exact decodeAtomic32_answersEncoding ‹_›
  any_goals with_reducible exact decodeAtomic64_answersEncoding ‹_›
  any_goals with_reducible refine AnswersEncoding.stx ‹_› fun _ _ _ => ?_
  any_goals with_reducible exact AnswersEncoding.error _
  all_goals exact ⟨rfl, rfl⟩

theorem decodeAlu_answersEncoding : AnswersEncoding f second (decodeAlu f) := by
  unfold decodeAlu
  split
  any_goals with_reducible refine AnswersEncoding.zeroOffset fun ho => ?_
  any_goals with_reducible refine AnswersEncoding.signSelector (fun ho => ?_) fun ho => ?_
  any_goals with_reducible refine AnswersEncoding.moveSelector32 (fun ho => ?_) (fun ho => ?_) fun ho => ?_
  any_goals with_reducible refine AnswersEncoding.aluK ‹_› ho fun _ _ => ?_
  any_goals with_reducible refine AnswersEncoding.aluX ‹_› ho fun _ _ => ?_
  any_goals with_reducible refine AnswersEncoding.neg ‹_› fun _ => ?_
  any_goals with_reducible refine AnswersEncoding.swap ‹_› (fun _ => ?_) (fun _ => ?_) fun _ => ?_
  any_goals with_reducible exact AnswersEncoding.error _
  all_goals exact ⟨rfl, rfl⟩

theorem decodeAlu64_answersEncoding : AnswersEncoding f second (decodeAlu64 f) := by
  unfold decodeAlu64
  split
  any_goals with_reducible refine AnswersEncoding.zeroOffset fun ho => ?_
  any_goals with_reducible refine AnswersEncoding.signSelector (fun ho => ?_) fun ho => ?_
  any_goals with_reducible refine
    AnswersEncoding.moveSelector64 (fun ho => ?_) (fun ho => ?_) (fun ho => ?_) fun ho => ?_
  any_goals with_reducible refine AnswersEncoding.aluK ‹_› ho fun _ _ => ?_
  any_goals with_reducible refine AnswersEncoding.aluX ‹_› ho fun _ _ => ?_
  any_goals with_reducible refine AnswersEncoding.neg ‹_› fun _ => ?_
  any_goals with_reducible refine AnswersEncoding.swap ‹_› (fun _ => ?_) (fun _ => ?_) fun _ => ?_
  any_goals with_reducible exact AnswersEncoding.error _
  all_goals exact ⟨rfl, rfl⟩

theorem decodeJmp_answersEncoding : AnswersEncoding f second (decodeJmp f) := by
  unfold decodeJmp
  split
  any_goals with_reducible exact decodeCall_answersEncoding ‹_›
  any_goals with_reducible refine AnswersEncoding.jumpK ‹_› fun _ _ _ => ?_
  any_goals with_reducible refine AnswersEncoding.jumpX ‹_› fun _ _ _ => ?_
  any_goals with_reducible refine AnswersEncoding.ja ‹_› fun _ => ?_
  any_goals with_reducible refine AnswersEncoding.noOperand ‹_› ?_
  any_goals with_reducible exact AnswersEncoding.error _
  all_goals exact ⟨rfl, rfl⟩

theorem decodeJmp32_answersEncoding : AnswersEncoding f second (decodeJmp32 f) := by
  unfold decodeJmp32
  split
  any_goals with_reducible refine AnswersEncoding.jumpK ‹_› fun _ _ _ => ?_
  any_goals with_reducible refine AnswersEncoding.jumpX ‹_› fun _ _ _ => ?_
  any_goals with_reducible refine AnswersEncoding.ja32 ‹_› fun _ => ?_
  any_goals with_reducible exact AnswersEncoding.error _
  all_goals exact ⟨rfl, rfl⟩

/-- The maps together, by class (R144). -/
theorem decodeFields_answersEncoding : AnswersEncoding f second (decodeFields f second) := by
  unfold decodeFields
  split
  · exact decodeLd_answersEncoding
  · exact decodeLdx_answersEncoding
  · exact decodeSt_answersEncoding
  · exact decodeStx_answersEncoding
  · exact decodeAlu_answersEncoding
  · exact decodeJmp_answersEncoding
  · exact decodeJmp32_answersEncoding
  · exact decodeAlu64_answersEncoding

end Maps

theorem Instr.decoded_ok {i : Instr} : i.decoded = .ok i ↔ i.wf = true := by
  unfold Instr.decoded
  split <;> simp [*]

/-- The decoder answers an instruction exactly where it is well-formed and the fields are its own. -/
theorem decodeFields_ok {f : Fields} {second : Option Fields} {i : Instr} :
    decodeFields f second = .ok i ↔ i.wf = true ∧ i.Encodes f second := by
  have onEncoding (h : i.Encodes f second) : decodeFields f second = .ok i ↔ i.wf = true := by
    rw [h.1, h.2, decodeFields_fields, Instr.decoded_ok]
  constructor
  · intro h
    have henc := decodeFields_answersEncoding i h
    exact ⟨(onEncoding henc).mp h, henc⟩
  · rintro ⟨hwf, henc⟩
    exact (onEncoding henc).mpr hwf

theorem Fields.ofSlot_eq_iff {e : Endian} {a : Slot} {f : Fields} : Fields.ofSlot e a = f ↔ a = f.toSlot e :=
  ⟨fun h => h ▸ (Fields.toSlot_ofSlot e a).symm, fun h => h ▸ Fields.ofSlot_toSlot e f⟩

/-- The decoder on slots, in both directions: the slot in hand and, for a wide instruction, the slot after it are the
encoding (R130, R139, R162). -/
theorem decode_ok {e : Endian} {a : Slot} {after : Option Slot} {i : Instr} :
    decode e a after = .ok i ↔
      i.wf = true ∧ a = i.fields.toSlot e ∧ after = (i.secondFields.map (Fields.toSlot e)).or after := by
  rw [decode, decodeFields_ok, Instr.Encodes, Fields.ofSlot_eq_iff]
  cases i.secondFields with
  | none => simp
  | some g => simp [Fields.ofSlot_eq_iff]

/-- Settles O1: the slots of the encoding meet what the decoder asks, whatever follows the only slot or the second. -/
theorem decodeInvertsEncode : Obligations.DecodeInvertsEncode := by
  intro e i hwf
  unfold encode
  cases hs : i.secondFields with
  | none => exact fun after => decode_ok.mpr ⟨hwf, rfl, by rw [hs]; rfl⟩
  | some g => exact decode_ok.mpr ⟨hwf, rfl, by rw [hs]; rfl⟩

/-- Settles O2: what the decoder asks of its slots is that they are the encoding. -/
theorem decodeAcceptsOnlyEncodings : Obligations.DecodeAcceptsOnlyEncodings := by
  intro e a after i h
  obtain ⟨hwf, ha, hafter⟩ := decode_ok.mp h
  refine ⟨hwf, ?_⟩
  unfold encode
  cases hs : i.secondFields with
  | none => exact ha
  | some g => exact ⟨ha, by rw [hafter, hs]; rfl⟩

/-! ## The opcode byte alone -/

@[simp] theorem Fields.toSlot_b0 (e : Endian) (f : Fields) : (f.toSlot e).b0 = f.opcode := by
  cases e <;> rfl

@[simp] theorem Fields.ofSlot_opcode (e : Endian) (a : Slot) : (Fields.ofSlot e a).opcode = a.b0 := by
  cases e <;> rfl

/-- The seven wide constructors have the opcode byte 0x18, and no other has it (R139, R142). -/
theorem Instr.slots_eq (i : Instr) : i.slots = if i.fields.opcode = 0x18#8 then 2 else 1 := by
  cases i with
  | ldImm64 | ldMapFd | ldMapFdVal | ldVarAddr | ldCodeAddr | ldMapIdx | ldMapIdxVal => rfl
  | _ => rfl

/-- Settles O3: the slot is the first of the encoding, so its byte 0 is the opcode byte of the instruction. -/
theorem opcodeByteTellsLength : Obligations.OpcodeByteTellsLength := by
  intro e a after i h
  obtain ⟨-, rfl, -⟩ := decode_ok.mp h
  rw [Fields.toSlot_b0, i.slots_eq]

/-- Each row of an opcode map is of a defined opcode byte, so a slot with another one comes to the last case of the map
of its class (R144, R157). -/
theorem decodeFields_of_undefined {f : Fields} (second : Option Fields) (h : f.opcode ∉ definedOpcodes) :
    decodeFields f second = .error (.undefinedOpcode f.opcode) := by
  have noRow {op : Byte} (hop : f.opcode = op) (hdef : op ∈ definedOpcodes) : False := h (hop ▸ hdef)
  unfold decodeFields decodeLd decodeLdx decodeSt decodeStx decodeAlu decodeJmp decodeJmp32 decodeAlu64
  split <;> split
  any_goals exact (noRow ‹_› (by decide)).elim
  all_goals rfl

/-- Settles O4: the opcode byte of a slot is its byte 0 in both byte orders. -/
theorem undefinedOpcodesAreRefused : Obligations.UndefinedOpcodesAreRefused := by
  intro e a after h
  rw [← Fields.ofSlot_opcode e a] at h ⊢
  exact decodeFields_of_undefined _ h

/-! ## Single words -/

/-- Settles O6, field by field and bit by bit (R132, R136). -/
theorem littleEndianSlotIsCanonicalWord : Obligations.LittleEndianSlotIsCanonicalWord := by
  intro w
  rw [Fields.ofSlot, Fields.ofWord, Fields.mk.injEq]
  refine ⟨?_, ?_, ?_, ?_, ?_⟩ <;> ext k hk <;> simp <;> grind

/-- Settles O7: the decoder computes on each word. -/
theorem sampleWordsDecode : Obligations.SampleWordsDecode :=
  ⟨rfl, rfl, rfl, rfl, rfl, rfl, rfl, rfl, rfl⟩

end Sys2Proof

namespace Sys2Proof.Machine

/-! ## Registers that a completed instruction leaves -/

/-- `t` differs from `s` in no register but those of `W`. -/
def KeepsRegs (W : List Reg) (s t : State) : Prop := ∀ r, r ∉ W → t.reg r = s.reg r

section Rules

variable {s t : State} {r : Reg} {v : Word}

theorem KeepsRegs.same (h : t.regs = s.regs) : KeepsRegs [] s t := fun _ _ => by rw [State.reg, State.reg, h]

/-- One register put into the registers of `s`: a result, and the value that a load or a fetching atomic returns. -/
theorem KeepsRegs.put (h : t.regs = s.regs.put r (some v)) : KeepsRegs [r] s t := fun q hq => by
  rw [State.reg, State.reg, h, RegFile.get_put_other _ _ (List.ne_of_not_mem_cons hq)]

end Rules

/-! What a call, a return and a helper call leave of the register file (R403, R404, R409). -/

theorem RegFile.get_enter (f : RegFile) (fp : Word) {r : Reg} (h : r ∉ [.r0, .r6, .r7, .r8, .r9, .r10]) :
    (f.enter fp).get r = f.get r := by
  cases r <;> simp at h <;> rfl

theorem RegFile.get_leave (f : RegFile) (fr : Frame) {r : Reg}
    (h : r ∉ [.r1, .r2, .r3, .r4, .r5, .r6, .r7, .r8, .r9, .r10]) : (f.leave fr).get r = f.get r := by
  cases r <;> simp at h
  rfl

theorem RegFile.get_afterHelper (f : RegFile) (r0 : Option Word) {r : Reg}
    (h : r ∉ [.r0, .r1, .r2, .r3, .r4, .r5]) : (f.afterHelper r0).get r = f.get r := by
  cases r <;> simp at h <;> rfl

theorem execCallLocal_keepsRegs (imm : Word32) (s : State) :
    Post (KeepsRegs [.r0, .r6, .r7, .r8, .r9, .r10] s) (execCallLocal imm s) := by
  unfold execCallLocal
  split
  · exact .raise _
  · exact .readReg fun _ => .next fun _ hr => RegFile.get_enter _ _ hr

theorem execExit_keepsRegs (s : State) :
    Post (KeepsRegs [.r1, .r2, .r3, .r4, .r5, .r6, .r7, .r8, .r9, .r10] s) (execExit s) := by
  refine .readReg fun _ => ?_
  split
  · exact .next fun _ _ => rfl
  · exact .next fun _ hr => RegFile.get_leave _ _ hr

theorem callHelperForm_keepsRegs (kind : HelperKind) (imm : Word32) (s : State) :
    Post (KeepsRegs [.r0, .r1, .r2, .r3, .r4, .r5] s) (callHelperForm kind imm s) := by
  intro t h r hr
  obtain ⟨_, -, -, r0, _, -, -, rfl⟩ := callHelperForm_next.mp h
  exact RegFile.get_afterHelper _ _ hr

/-- One case for each shape of a meaning: its checks and reads in order, then the registers of the state it answers. -/
theorem exec_keepsRegs (i : Instr) (s : State) : Post (KeepsRegs i.writes s) (exec i s) := by
  cases i with
  | mov64Imm | mov32Imm | ldImm64 => exact .guardWrite (.next (.put rfl))
  | add64Imm | sub64Imm | mul64Imm | div64Imm | sdiv64Imm | or64Imm | and64Imm | lsh64Imm | rsh64Imm | mod64Imm
  | smod64Imm | xor64Imm | arsh64Imm | neg64 | mov64Reg | movsx64From8 | movsx64From16 | movsx64From32
  | add32Imm | sub32Imm | mul32Imm | div32Imm | sdiv32Imm | or32Imm | and32Imm | lsh32Imm | rsh32Imm | mod32Imm
  | smod32Imm | xor32Imm | arsh32Imm | neg32 | mov32Reg | movsx32From8 | movsx32From16
  | le16 | le32 | le64 | be16 | be32 | be64 | bswap16 | bswap32 | bswap64 =>
    exact .guardWrite (.readReg fun _ => .next (.put rfl))
  | add64Reg | sub64Reg | mul64Reg | div64Reg | sdiv64Reg | or64Reg | and64Reg | lsh64Reg | rsh64Reg | mod64Reg
  | smod64Reg | xor64Reg | arsh64Reg
  | add32Reg | sub32Reg | mul32Reg | div32Reg | sdiv32Reg | or32Reg | and32Reg | lsh32Reg | rsh32Reg | mod32Reg
  | smod32Reg | xor32Reg | arsh32Reg =>
    exact .guardWrite (.readReg fun _ => .readReg fun _ => .next (.put rfl))
  | ldMapFd | ldMapFdVal | ldVarAddr | ldCodeAddr | ldMapIdx | ldMapIdxVal =>
    exact .guardWrite (.platform fun _ => .next (.put rfl))
  | ldxW | ldxH | ldxB | ldxDw | ldxsxW | ldxsxH | ldxsxB =>
    exact .guardWrite (.readReg fun _ => .checkAccess (.next (.put rfl)))
  | stW | stH | stB | stDw => exact .readReg fun _ => .checkAccess (.next (.same rfl))
  | stxW | stxH | stxB | stxDw | atomicAdd32 | atomicOr32 | atomicAnd32 | atomicXor32
  | atomicAdd64 | atomicOr64 | atomicAnd64 | atomicXor64 =>
    exact .readReg fun _ => .readReg fun _ => .checkAccess (.next (.same rfl))
  | atomicFetchAdd32 | atomicFetchOr32 | atomicFetchAnd32 | atomicFetchXor32 | atomicXchg32
  | atomicFetchAdd64 | atomicFetchOr64 | atomicFetchAnd64 | atomicFetchXor64 | atomicXchg64 =>
    exact .guardWrite (.readReg fun _ => .readReg fun _ => .checkAccess (.next (.put rfl)))
  | atomicCmpxchg32 | atomicCmpxchg64 =>
    exact .readReg fun _ => .readReg fun _ => .readReg fun _ => .checkAccess (.next (.put rfl))
  | ja | ja32 => exact .next (.same rfl)
  | jeq64Imm | jgt64Imm | jge64Imm | jset64Imm | jne64Imm | jsgt64Imm | jsge64Imm | jlt64Imm | jle64Imm | jslt64Imm
  | jsle64Imm | jeq32Imm | jgt32Imm | jge32Imm | jset32Imm | jne32Imm | jsgt32Imm | jsge32Imm | jlt32Imm | jle32Imm
  | jslt32Imm | jsle32Imm =>
    exact .readReg fun _ => .next (.same rfl)
  | jeq64Reg | jgt64Reg | jge64Reg | jset64Reg | jne64Reg | jsgt64Reg | jsge64Reg | jlt64Reg | jle64Reg | jslt64Reg
  | jsle64Reg | jeq32Reg | jgt32Reg | jge32Reg | jset32Reg | jne32Reg | jsgt32Reg | jsge32Reg | jlt32Reg | jle32Reg
  | jslt32Reg | jsle32Reg =>
    exact .readReg fun _ => .readReg fun _ => .next (.same rfl)
  | ldAbsW | ldAbsH | ldAbsB | ldAbsDw | ldIndW | ldIndH | ldIndB | ldIndDw => exact .raise _
  | callHelper imm => exact callHelperForm_keepsRegs .byAddress imm s
  | callBtf imm => exact callHelperForm_keepsRegs .byBtfId imm s
  | callLocal imm => exact execCallLocal_keepsRegs imm s
  | exit => exact execExit_keepsRegs s

/-- Settles O51: the registers that a meaning writes are those that Safety names. -/
theorem registerFrame : Obligations.RegisterFrame := by
  intro i s t r h hr
  exact exec_keepsRegs i s t h r hr

end Sys2Proof.Machine

/-! ## Arithmetic: operand forms and the values of their operations -/

namespace Sys2Proof.Machine

/-! A form completes with the result in `dst` once it may write `dst` and what it reads holds a value (R201, R251). -/

section Forms

variable {s : State} {dst src : Reg} {x y : Word}

theorem alu64K_completes (f : Word → Word → Word) (imm : Word32) (hdst : dst ≠ .r10) (hx : s.reg dst = some x) :
    alu64K f dst imm s = .next ((s.setReg dst (f x (sextImm imm))).skip 1) :=
  alu64K_next.mpr ⟨(Reg.writable_iff dst).mpr hdst, x, hx, rfl⟩

theorem alu64X_completes (f : Word → Word → Word) (hdst : dst ≠ .r10) (hx : s.reg dst = some x)
    (hy : s.reg src = some y) : alu64X f dst src s = .next ((s.setReg dst (f x y)).skip 1) :=
  alu64X_next.mpr ⟨(Reg.writable_iff dst).mpr hdst, x, hx, y, hy, rfl⟩

theorem alu32X_completes (f : Word32 → Word32 → Word32) (hdst : dst ≠ .r10) (hx : s.reg dst = some x)
    (hy : s.reg src = some y) :
    alu32X f dst src s = .next ((s.setReg dst (zext (f (low32 x) (low32 y)))).skip 1) :=
  alu32X_next.mpr ⟨(Reg.writable_iff dst).mpr hdst, x, hx, y, hy, rfl⟩

theorem aluUnary_completes (f : Word → Word) (hdst : dst ≠ .r10) (hx : s.reg dst = some x) :
    aluUnary f dst s = .next ((s.setReg dst (f x)).skip 1) :=
  aluUnary_next.mpr ⟨(Reg.writable_iff dst).mpr hdst, x, hx, rfl⟩

theorem moveK_completes (v : Word) (hdst : dst ≠ .r10) : moveK v dst s = .next ((s.setReg dst v).skip 1) :=
  moveK_next.mpr ⟨(Reg.writable_iff dst).mpr hdst, rfl⟩

theorem moveX_completes (f : Word → Word) (hdst : dst ≠ .r10) (hy : s.reg src = some y) :
    moveX f dst src s = .next ((s.setReg dst (f y)).skip 1) :=
  moveX_next.mpr ⟨(Reg.writable_iff dst).mpr hdst, y, hy, rfl⟩

end Forms

/-! ## Signed division and modulo -/

/-- Lean's own signed division wraps as the spec's does, and gives the same 0 for a zero divisor (R203, R204). -/
theorem sdivOrZero_eq_sdiv {n : Nat} (a b : BitVec n) : sdivOrZero a b = a.sdiv b := by
  unfold sdivOrZero
  split
  · next hb => rw [hb, BitVec.sdiv_zero]
  · rw [← BitVec.toInt_inj, BitVec.toInt_ofInt, BitVec.toInt_sdiv]

theorem smodOrSame_eq_srem {n : Nat} (a b : BitVec n) : smodOrSame a b = a.srem b := by
  rw [smodOrSame_eq]
  split
  · next hb => rw [hb]; exact BitVec.srem_zero.symm
  · rw [← BitVec.toInt_srem, BitVec.ofInt_toInt]

theorem toInt_smodOrSame {n : Nat} (a b : BitVec n) :
    (smodOrSame a b).toInt = a.toInt - b.toInt * a.toInt.tdiv b.toInt := by
  rw [smodOrSame_eq_srem, BitVec.toInt_srem, Int.tmod_def]

theorem eq_intMin_iff_toInt {n : Nat} (hn : 0 < n) (a : BitVec n) :
    a = BitVec.intMin n ↔ a.toInt = -2 ^ (n - 1) := by
  rw [← BitVec.toInt_inj, BitVec.toInt_intMin_of_pos hn]

theorem eq_neg_one_iff_toInt {n : Nat} (hn : 0 < n) (b : BitVec n) : b = -1#n ↔ b.toInt = -1 := by
  rw [← BitVec.toInt_inj, BitVec.neg_one_eq_allOnes, BitVec.toInt_allOnes, if_pos hn]

/-- The quotient wraps in one case alone, where the exact one is `2 ^ (n - 1)` (R9). -/
theorem toInt_sdivOrZero {n : Nat} (hn : 0 < n) (a b : BitVec n) :
    (sdivOrZero a b).toInt =
      if a.toInt = -2 ^ (n - 1) ∧ b.toInt = -1 then -2 ^ (n - 1) else a.toInt.tdiv b.toInt := by
  simp only [sdivOrZero_eq_sdiv, ← eq_intMin_iff_toInt hn, ← eq_neg_one_iff_toInt hn]
  split
  · next h => rw [h.1, h.2, BitVec.intMin_sdiv_neg_one, BitVec.toInt_intMin_of_pos hn]
  · next h => exact BitVec.toInt_sdiv_of_ne_or_ne a b (not_and_or.mp h)

/-- Settles O24: both widths are the two operations of any width. -/
theorem signedDivisionTruncates : Obligations.SignedDivisionTruncates := by
  intro s dst src x y hdst hx hy
  refine ⟨fun _ => ⟨_, _, alu64X_completes sdivOrZero hdst hx hy, alu64X_completes smodOrSame hdst hx hy, ?_, ?_⟩,
    fun _ => ⟨_, _, alu32X_completes sdivOrZero hdst hx hy, alu32X_completes smodOrSame hdst hx hy, ?_, ?_⟩⟩
  · exact toInt_sdivOrZero (by decide) x y
  · exact toInt_smodOrSame x y
  · exact toInt_sdivOrZero (by decide) (low32 x) (low32 y)
  · exact toInt_smodOrSame (low32 x) (low32 y)

/-! ## Shifts -/

/-- A shift count is below 32, so the low half of the register holds it (R255). -/
theorem count32_low32 (y : Word) : count32 (low32 y) = y.toNat % 32 := by
  rw [count32_eq, low32, BitVec.toNat_setWidth]
  exact Nat.mod_mod_of_dvd _ (by decide)

theorem toNat_shiftLeft_eq_mul {n : Nat} (a : BitVec n) (k : Nat) : (a <<< k).toNat = a.toNat * 2 ^ k % 2 ^ n := by
  rw [BitVec.toNat_shiftLeft, Nat.shiftLeft_eq]

theorem toNat_ushiftRight_eq_div {n : Nat} (a : BitVec n) (k : Nat) : (a >>> k).toNat = a.toNat / 2 ^ k := by
  rw [BitVec.toNat_ushiftRight, Nat.shiftRight_eq_div_pow]

theorem toInt_sshiftRight_eq_div {n : Nat} (a : BitVec n) (k : Nat) : (a.sshiftRight k).toInt = a.toInt / 2 ^ k := by
  rw [BitVec.toInt_sshiftRight, Int.shiftRight_eq_div_pow, Nat.cast_pow, Nat.cast_ofNat]

/-- Settles O25: the count is the masked one, and a shift by it is the arithmetic of its direction. -/
theorem shiftsAreMaskedArithmetic : Obligations.ShiftsAreMaskedArithmetic := by
  intro s dst src x y hdst hx hy
  rw [← count64_eq y, ← count32_low32 y]
  exact ⟨
    ⟨_, toNat_shiftLeft_eq_mul x _, alu64X_completes (fun a b => a <<< count64 b) hdst hx hy⟩,
    ⟨_, toNat_ushiftRight_eq_div x _, alu64X_completes (fun a b => a >>> count64 b) hdst hx hy⟩,
    ⟨_, toInt_sshiftRight_eq_div x _, alu64X_completes (fun a b => a.sshiftRight (count64 b)) hdst hx hy⟩,
    ⟨_, toNat_shiftLeft_eq_mul (low32 x) _, alu32X_completes (fun a b => a <<< count32 b) hdst hx hy⟩,
    ⟨_, toNat_ushiftRight_eq_div (low32 x) _, alu32X_completes (fun a b => a >>> count32 b) hdst hx hy⟩,
    ⟨_, toInt_sshiftRight_eq_div (low32 x) _,
      alu32X_completes (fun a b => a.sshiftRight (count32 b)) hdst hx hy⟩⟩

/-! ## The thirteen operations of the operand forms -/

/-- Whatever the operand form and the width, the thirteen operations (R206 to R237) give these values on the operands
that the form hands over. -/
theorem alu_operation_results {n : Nat} {form : (BitVec n → BitVec n → BitVec n) → Result}
    {done : BitVec n → Result} {a b : BitVec n} {count : BitVec n → Nat} (hcount : count b = b.toNat % n)
    (hform : ∀ f, form f = done (f a b)) :
    form (fun a b => a + b) = done (a + b) ∧
    form (fun a b => a - b) = done (a - b) ∧
    form (fun a b => a * b) = done (a * b) ∧
    form udivOrZero = done (if b = 0 then 0 else BitVec.ofNat n (a.toNat / b.toNat)) ∧
    form sdivOrZero = done (if b = 0 then 0 else BitVec.ofInt n (a.toInt.tdiv b.toInt)) ∧
    form (fun a b => a ||| b) = done (a ||| b) ∧
    form (fun a b => a &&& b) = done (a &&& b) ∧
    form (fun a b => a <<< count b) = done (a <<< (b.toNat % n)) ∧
    form (fun a b => a >>> count b) = done (a >>> (b.toNat % n)) ∧
    form umodOrSame = done (if b = 0 then a else BitVec.ofNat n (a.toNat % b.toNat)) ∧
    form smodOrSame = done (if b = 0 then a else BitVec.ofInt n (a.toInt.tmod b.toInt)) ∧
    form (fun a b => a ^^^ b) = done (a ^^^ b) ∧
    form (fun a b => a.sshiftRight (count b)) = done (a.sshiftRight (b.toNat % n)) := by
  rw [← hcount, ← umodOrSame_eq, ← smodOrSame_eq]
  exact ⟨hform _, hform _, hform _, hform _, hform _, hform _, hform _, hform _, hform _, hform _, hform _, hform _,
    hform _⟩

/-- Settles O17: the form hands over `dst` and the sign-extended immediate (R147). -/
theorem alu64ImmediateResults : Obligations.Alu64ImmediateResults := by
  intro s dst imm a hdst ha b done
  exact alu_operation_results (form := (alu64K · dst imm s)) (done := done) (count64_eq b)
    fun f => alu64K_completes f imm hdst ha

/-- Settles O18: the form hands over `dst` and `src`. -/
theorem alu64RegisterResults : Obligations.Alu64RegisterResults := by
  intro s dst src a b hdst ha hb done
  exact alu_operation_results (form := (alu64X · dst src s)) (done := done) (count64_eq b)
    fun f => alu64X_completes f hdst ha hb

/-! ## MOV, MOVSX and NEG -/

/-- Settles O21: a move does not read `dst`, a sign extension keeps the signed reading, and `0 - x` is `-x`. -/
theorem moveAndNegateResults : Obligations.MoveAndNegateResults := by
  intro s dst src imm x hdst
  refine ⟨moveK_completes _ hdst, moveK_completes _ hdst, fun hx => ?_, fun hx => ?_⟩
  · have move (f : Word → Word) := moveX_completes f hdst hx
    have sext {n m : Nat} (h : n ≤ m) : ((x.setWidth n).signExtend m).toInt = (x.setWidth n).toInt :=
      BitVec.toInt_signExtend_of_le h
    exact ⟨move _, move _,
      ⟨_, sext (by decide), move _⟩, ⟨_, sext (by decide), move _⟩, ⟨_, sext (by decide), move _⟩,
      ⟨_, sext (by decide), move fun b => zext ((b.setWidth 8).signExtend 32)⟩,
      ⟨_, sext (by decide), move fun b => zext ((b.setWidth 16).signExtend 32)⟩⟩
  · rw [← BitVec.zero_sub, ← BitVec.zero_sub]
    exact ⟨aluUnary_completes _ hdst hx, aluUnary_completes _ hdst hx⟩

end Sys2Proof.Machine

/-! ## The 32-bit operand forms (R251) -/

namespace Sys2Proof.Machine

theorem alu32K_completes {s : State} {dst : Reg} {x : Word} (f : Word32 → Word32 → Word32) (imm : Word32)
    (hdst : dst ≠ .r10) (hx : s.reg dst = some x) :
    alu32K f dst imm s = .next ((s.setReg dst (zext (f (low32 x) imm))).skip 1) :=
  alu32K_next.mpr ⟨(Reg.writable_iff dst).mpr hdst, x, hx, rfl⟩

/-- Settles O19: the form hands over the low half of `dst` and the immediate as it stands. -/
theorem alu32ImmediateResults : Obligations.Alu32ImmediateResults := by
  intro s dst imm x hdst hx a b done
  exact alu_operation_results (form := (alu32K · dst imm s)) (done := done) (count32_eq b)
    fun f => alu32K_completes f imm hdst hx

/-- Settles O20: the form hands over the low halves of `dst` and `src`. -/
theorem alu32RegisterResults : Obligations.Alu32RegisterResults := by
  intro s dst src x y hdst hx hy a b done
  exact alu_operation_results (form := (alu32X · dst src s)) (done := done) (count32_eq b)
    fun f => alu32X_completes f hdst hx hy

end Sys2Proof.Machine

/-! ## Byte swaps (R303 to R311) -/

namespace Sys2Proof.Machine

/-- Among its low `n` bytes, `w` has those of `v`: reversed if `reverse`, else each in its place. -/
def BytesPlaced (n : Nat) (reverse : Bool) {m : Nat} (v w : BitVec m) : Prop :=
  ∀ k, k < n → w.extractLsb' (8 * k) 8 = v.extractLsb' (8 * (if reverse then n - 1 - k else k)) 8

theorem bswap16_bytes (v : BitVec 16) : BytesPlaced 2 true v (bswap16 v) := fun _ hk => bswap16_byte v hk

theorem bswap32_bytes (v : BitVec 32) : BytesPlaced 4 true v (bswap32 v) := fun _ hk => bswap32_byte v hk

theorem bswap64_bytes (v : BitVec 64) : BytesPlaced 8 true v (bswap64 v) := fun _ hk => bswap64_byte v hk

section PlatformOrder

variable {n m : Nat} {swap : BitVec m → BitVec m}

theorem toLittle_bytes (hswap : ∀ v, BytesPlaced n true v (swap v)) (e : Endian) (v : BitVec m) :
    BytesPlaced n (decide (e = .big)) v (toLittle swap e v) := by
  cases e with
  | little => exact fun _ _ => rfl
  | big => exact hswap v

theorem toBig_bytes (hswap : ∀ v, BytesPlaced n true v (swap v)) (e : Endian) (v : BitVec m) :
    BytesPlaced n (decide (e = .little)) v (toBig swap e v) := by
  cases e with
  | little => exact hswap v
  | big => exact fun _ _ => rfl

end PlatformOrder

/-- Bytes placed within the low `8 * n` bits of a word stay so when the result is zero-extended. -/
theorem BytesPlaced.zeroExtend {n : Nat} {reverse : Bool} {x : Word} {w : BitVec (8 * n)} (hn : n ≤ 8)
    (h : BytesPlaced n reverse (x.setWidth (8 * n)) w) : BytesPlaced n reverse x (w.setWidth 64) := fun k hk => by
  have hplace : (if reverse then n - 1 - k else k) < n := by split <;> omega
  rw [BitVec.extractLsb'_setWidth_of_le (by omega), h k hk, BitVec.extractLsb'_setWidth_of_le (by omega)]

theorem toNat_zeroExtend_lt {m : Nat} (w : BitVec m) : (w.setWidth 64).toNat < 2 ^ m := by
  rw [BitVec.toNat_setWidth]
  exact (Nat.mod_le _ _).trans_lt w.isLt

/-- Settles O22: the instructions of 16 and 32 bits zero-extend an operation on the low bits of `dst` (R301), those of 64
bits operate on the whole word. -/
theorem byteSwapResults : Obligations.ByteSwapResults := by
  intro s dst x hdst hx swapped
  have narrow {i : Instr} {n : Nat} {reverse : Bool} {op : BitVec (8 * n) → BitVec (8 * n)} (hn : n ≤ 8)
      (hi : exec i s = aluUnary (fun a => (op (a.setWidth (8 * n))).setWidth 64) dst s)
      (hop : ∀ v, BytesPlaced n reverse v (op v)) : swapped i n reverse :=
    ⟨_, hi.trans (aluUnary_completes _ hdst hx),
      toNat_zeroExtend_lt _, (hop _).zeroExtend hn⟩
  have wide {i : Instr} {reverse : Bool} {op : Word → Word} (hi : exec i s = aluUnary op dst s)
      (hop : ∀ v, BytesPlaced 8 reverse v (op v)) : swapped i 8 reverse :=
    ⟨_, hi.trans (aluUnary_completes _ hdst hx), (op x).isLt, hop x⟩
  exact ⟨narrow (by decide) rfl (toLittle_bytes bswap16_bytes _),
    narrow (by decide) rfl (toLittle_bytes bswap32_bytes _),
    wide rfl (toLittle_bytes bswap64_bytes _),
    narrow (by decide) rfl (toBig_bytes bswap16_bytes _),
    narrow (by decide) rfl (toBig_bytes bswap32_bytes _),
    wide rfl (toBig_bytes bswap64_bytes _),
    narrow (by decide) rfl bswap16_bytes, narrow (by decide) rfl bswap32_bytes, wide rfl bswap64_bytes⟩

end Sys2Proof.Machine

/-! ## Jumps: where a branch goes, and the eleven conditions (R320) -/

namespace Sys2Proof.Machine

/-! A displacement counts from the slot after the jump (R321). -/

theorem branch_true (d : Int) (s : State) : branch true d s = .next { s with pc := s.pc + 1 + d } := by
  rw [Int.add_assoc]
  rfl

theorem branch_false (d : Int) (s : State) : branch false d s = .next { s with pc := s.pc + 1 } := rfl

theorem branch_decide (p : Prop) [Decidable p] (d : Int) (s : State) :
    branch (decide p) d s = if p then .next { s with pc := s.pc + 1 + d } else .next { s with pc := s.pc + 1 } := by
  by_cases hp : p
  · rw [if_pos hp, decide_eq_true hp, branch_true]
  · rw [if_neg hp, decide_eq_false hp, branch_false]

/-- Settles O28: both are a branch taken, whatever the state. -/
theorem unconditionalJumps : Obligations.UnconditionalJumps := by
  intro s offset imm
  exact ⟨branch_true offset.toInt s, branch_true imm.toInt s⟩

/-- Whatever the operand form and the width, each of the eleven conditions (R320, R323) decides its comparison of the
operands that the form hands over. -/
theorem jump_condition_branches {n : Nat} {form : (BitVec n → BitVec n → Bool) → Result} {a b : BitVec n} {d : Int}
    {s : State} (hform : ∀ c, form c = branch (c a b) d s) :
    let taken : Result := .next { s with pc := s.pc + 1 + d }
    let notTaken : Result := .next { s with pc := s.pc + 1 }
    form condEq = (if a = b then taken else notTaken) ∧
    form condGt = (if a.toNat > b.toNat then taken else notTaken) ∧
    form condGe = (if a.toNat ≥ b.toNat then taken else notTaken) ∧
    form condSet = (if a &&& b ≠ 0 then taken else notTaken) ∧
    form condNe = (if a ≠ b then taken else notTaken) ∧
    form condSgt = (if a.toInt > b.toInt then taken else notTaken) ∧
    form condSge = (if a.toInt ≥ b.toInt then taken else notTaken) ∧
    form condLt = (if a.toNat < b.toNat then taken else notTaken) ∧
    form condLe = (if a.toNat ≤ b.toNat then taken else notTaken) ∧
    form condSlt = (if a.toInt < b.toInt then taken else notTaken) ∧
    form condSle = (if a.toInt ≤ b.toInt then taken else notTaken) := by
  intro taken notTaken
  have decides {c : BitVec n → BitVec n → Bool} {p : Prop} [Decidable p] (hc : c a b = decide p) :
      form c = if p then taken else notTaken := by
    rw [hform, hc, branch_decide]
  exact ⟨decides rfl, decides rfl, decides rfl, decides rfl, decides rfl, decides rfl, decides rfl, decides rfl,
    decides rfl, decides rfl, decides rfl⟩

section Forms

variable {s : State} {dst src : Reg} {a b : Word}

theorem jump64K_completes (c : Word → Word → Bool) (imm : Word32) (offset : BitVec 16) (ha : s.reg dst = some a) :
    jump64K c dst imm offset s = branch (c a (sextImm imm)) offset.toInt s :=
  jump64K_next.mpr ⟨a, ha, rfl⟩

theorem jump64X_completes (c : Word → Word → Bool) (offset : BitVec 16) (ha : s.reg dst = some a)
    (hb : s.reg src = some b) : jump64X c dst src offset s = branch (c a b) offset.toInt s :=
  jump64X_next.mpr ⟨a, ha, b, hb, rfl⟩

end Forms

/-- Settles O29: the form hands over `dst` and the sign-extended immediate (R322). -/
theorem jump64ImmediateBranches : Obligations.Jump64ImmediateBranches := by
  intro s dst imm offset a ha
  exact jump_condition_branches (form := (jump64K · dst imm offset s)) fun c => jump64K_completes c imm offset ha

/-- Settles O30: the form hands over `dst` and `src` (R322). -/
theorem jump64RegisterBranches : Obligations.Jump64RegisterBranches := by
  intro s dst src offset a b ha hb
  exact jump_condition_branches (form := (jump64X · dst src offset s)) fun c => jump64X_completes c offset ha hb

end Sys2Proof.Machine

/-! ## Jumps on the low halves (R362) -/

namespace Sys2Proof.Machine

section Forms

variable {s : State} {dst src : Reg} {x y : Word}

theorem jump32K_completes (c : Word32 → Word32 → Bool) (imm : Word32) (offset : BitVec 16) (hx : s.reg dst = some x) :
    jump32K c dst imm offset s = branch (c (low32 x) imm) offset.toInt s :=
  jump32K_next.mpr ⟨x, hx, rfl⟩

theorem jump32X_completes (c : Word32 → Word32 → Bool) (offset : BitVec 16) (hx : s.reg dst = some x)
    (hy : s.reg src = some y) : jump32X c dst src offset s = branch (c (low32 x) (low32 y)) offset.toInt s :=
  jump32X_next.mpr ⟨x, hx, y, hy, rfl⟩

end Forms

/-- Settles O31: the form hands over the low half of `dst` and the immediate as it stands (R362). -/
theorem jump32ImmediateBranches : Obligations.Jump32ImmediateBranches := by
  intro s dst imm offset x hx
  exact jump_condition_branches (form := (jump32K · dst imm offset s)) fun c => jump32K_completes c imm offset hx

/-- Settles O32: the form hands over the low halves of `dst` and `src` (R362). -/
theorem jump32RegisterBranches : Obligations.Jump32RegisterBranches := by
  intro s dst src offset x y hx hy
  exact jump_condition_branches (form := (jump32X · dst src offset s)) fun c => jump32X_completes c offset hx hy

end Sys2Proof.Machine

/-! ## Program-local calls and returns (R404, R407, R409) -/

namespace Sys2Proof.Machine

section Rules

variable {s t : State}

theorem execCallLocal_next {imm : Word32} :
    execCallLocal imm s = .next t ↔
      s.activeFunctions ≠ s.params.maxCallDepth ∧ ∃ fp, s.reg .r10 = some fp ∧
        t = { s with
          frames := s.callFrame fp :: s.frames
          regs := s.regs.enter (fp - BitVec.ofNat 64 s.params.stackSize)
          pc := s.pc + 1 + imm.toInt } := by
  unfold execCallLocal
  split
  · next hd => simp [hd]
  · next hd => simp only [hd, readReg_next, next_eq_next, ne_eq, not_false_eq_true, true_and]

theorem execExit_next_of_entry (hf : s.frames = []) :
    execExit s = .next t ↔ ∃ v, s.reg .r0 = some v ∧ t = { s with status := .exited v } := by
  simp only [execExit, readReg_next, hf, next_eq_next]

theorem execExit_next_of_callee {fr : Frame} {rest : List Frame} (hf : s.frames = fr :: rest) :
    execExit s = .next t ↔
      ∃ v, s.reg .r0 = some v ∧ t = { s with frames := rest, regs := s.regs.leave fr, pc := fr.ret } := by
  simp only [execExit, readReg_next, hf, next_eq_next]

end Rules

/-- The frame of a call brings back the caller's registers 6 to 10, whatever the callee has made of them (R404). -/
theorem RegFile.get_leave_callFrame (f : RegFile) {s : State} {fp : Word} (hfp : s.reg .r10 = some fp) {r : Reg}
    (hr : r ∈ [Reg.r6, .r7, .r8, .r9, .r10]) : (f.leave (s.callFrame fp)).get r = s.reg r := by
  cases r with
  | r0 | r1 | r2 | r3 | r4 | r5 => simp at hr
  | r6 | r7 | r8 | r9 => rfl
  | r10 => exact hfp.symm

/-- A return leaves no argument behind (R404). -/
theorem RegFile.get_leave_args (f : RegFile) (fr : Frame) {r : Reg} (hr : r ∈ [Reg.r1, .r2, .r3, .r4, .r5]) :
    (f.leave fr).get r = none := by
  cases r with
  | r1 | r2 | r3 | r4 | r5 => rfl
  | r0 | r6 | r7 | r8 | r9 | r10 => simp at hr

/-- Settles O40: past the depth check and the read of register 10 the call has one outcome. -/
theorem localCallPushesFrame : Obligations.LocalCallPushesFrame := by
  intro s imm fp hd hfp
  exact execCallLocal_next.mpr ⟨hd, fp, hfp, rfl⟩

/-- Settles O42, by whether a caller stands on the call stack (R409). -/
theorem exitEndsOrReturns : Obligations.ExitEndsOrReturns := by
  intro s v hv
  refine ⟨fun hf => (execExit_next_of_entry hf).mpr ⟨v, hv, rfl⟩, fun fr rest hf => ?_⟩
  refine (execExit_next_of_callee hf).mpr ⟨v, hv, ?_⟩
  have hr0 : s.regs.r0 = some v := hv
  rw [RegFile.leave, hr0]

/-- Settles O43: the return pops the frame that the call pushed. -/
theorem callerRegistersSurviveCall : Obligations.CallerRegistersSurviveCall := by
  intro s t u v imm hcall hframes hexit
  obtain ⟨-, fp, hfp, rfl⟩ := execCallLocal_next.mp hcall
  obtain ⟨x, -, rfl⟩ := (execExit_next_of_callee hframes).mp hexit
  exact ⟨fun r => RegFile.get_leave_callFrame _ hfp, rfl, fun r => RegFile.get_leave_args _ _, rfl, rfl, rfl⟩

/-! ## Helper calls, fault by fault (R403, R555) -/

section Rules

variable {s : State} {rest : Result}

theorem readArgs_of_held {as : List ArgReg} (h : ∀ a ∈ as, (s.reg a.reg).isSome = true) :
    readArgs s as rest = rest := by
  induction as with
  | nil => rfl
  | cons a as ih =>
    obtain ⟨ha, has⟩ := List.forall_mem_cons.mp h
    obtain ⟨v, hv⟩ := Option.isSome_iff_exists.mp ha
    rw [readArgs, readReg, hv]
    exact ih has

theorem ReadsFirst.readArgs (as : List ArgReg) : ReadsFirst s (as.map ArgReg.reg) (readArgs s as rest) := by
  induction as with
  | nil => exact .nil
  | cons a as ih => exact .readReg fun _ => ih

theorem readArgs_of_missing {as : List ArgReg} {a : ArgReg}
    (h : as.find? (fun a => (s.reg a.reg).isNone) = some a) :
    readArgs s as rest = .fault (.unwrittenRegister a.reg) :=
  ReadsFirst.readArgs as a.reg (by rw [List.find?_map]; exact congrArg _ h)

/-- Bytes that may be written do not stop the check of what follows them. -/
theorem checkWrites_append {before after : List (Nat × Byte)} (h : ∀ b ∈ before, s.admitted .write b.1 1) :
    checkWrites s (before ++ after) rest = checkWrites s after rest := by
  induction before with
  | nil => rfl
  | cons b before ih =>
    obtain ⟨hb, hbefore⟩ := List.forall_mem_cons.mp h
    rw [List.cons_append, checkWrites, if_pos (admits_iff_admitted.mpr hb), ih hbefore]

theorem checkWrites_of_unwritable {before after : List (Nat × Byte)} {c : Nat × Byte}
    (h : ∀ b ∈ before, s.admitted .write b.1 1) (hc : ¬ s.admitted .write c.1 1) :
    checkWrites s (before ++ c :: after) rest = .fault (.memFault (BitVec.ofNat 64 c.1) 1 .write) := by
  rw [checkWrites_append h, checkWrites, if_neg fun ha => hc (admits_iff_admitted.mp ha), raise]

end Rules

section Forms

variable {s : State} {kind : HelperKind} {imm : Word32} {h : Helper}

theorem callHelperForm_of_absent (hk : s.params.helper kind imm = none) :
    callHelperForm kind imm s = .fault (.unknownHelper kind imm) := by
  rw [callHelperForm, hk, raise]

theorem callHelperForm_of_missing {a : ArgReg} (hk : s.params.helper kind imm = some h)
    (ha : (s.helperReply h).reads.find? (fun a => (s.reg a.reg).isNone) = some a) :
    callHelperForm kind imm s = .fault (.unwrittenRegister a.reg) := by
  rw [callHelperForm, hk]
  exact readArgs_of_missing ha

theorem callHelperForm_of_failed {why : HelperFailure} (hk : s.params.helper kind imm = some h)
    (hreads : ∀ a ∈ (s.helperReply h).reads, (s.reg a.reg).isSome = true)
    (ho : (s.helperReply h).outcome = .failed why) : callHelperForm kind imm s = .fault why.fault := by
  simp only [callHelperForm, hk, readArgs_of_held hreads, ho, raise]

theorem callHelperForm_of_unwritable {r0 : Option Word} {before after : List (Nat × Byte)} {c : Nat × Byte}
    (hk : s.params.helper kind imm = some h)
    (hreads : ∀ a ∈ (s.helperReply h).reads, (s.reg a.reg).isSome = true)
    (ho : (s.helperReply h).outcome = .result r0 (before ++ c :: after))
    (hb : ∀ b ∈ before, s.admitted .write b.1 1) (hc : ¬ s.admitted .write c.1 1) :
    callHelperForm kind imm s = .fault (.memFault (BitVec.ofNat 64 c.1) 1 .write) := by
  simp only [callHelperForm, hk, readArgs_of_held hreads, ho, checkWrites_of_unwritable hb hc]

end Forms

/-- Settles O44: both kinds of call are one form, whose checks the hypotheses meet. -/
theorem helperCallsComplete : Obligations.HelperCallsComplete := by
  intro s kind imm h r0 writes hk
  refine ⟨fun hreads ho hw => ?_, fun c hc hm => helperReply_of_case hc hm⟩
  have hheld : ∀ a ∈ (s.helperReply h).reads, ∃ v, s.reg a.reg = some v :=
    fun a ha => Option.isSome_iff_exists.mp (hreads a ha)
  have hadm : ∀ c ∈ writes, s.params.admits .write c.1 1 = true := fun c hc => admits_iff_admitted.mpr (hw c hc)
  cases kind with
  | byAddress | byBtfId => exact callHelperForm_next.mpr ⟨h, hk, hheld, r0, writes, ho, hadm, rfl⟩

/-- Settles O45: the causes in the order in which the form of both kinds of call asks for them (R555). -/
theorem helperCallFaults : Obligations.HelperCallFaults := by
  intro s kind imm call
  have hcall : exec call s = callHelperForm kind imm s := by cases kind <;> rfl
  rw [hcall]
  refine ⟨callHelperForm_of_absent, fun h hk => ⟨fun a => callHelperForm_of_missing hk, fun hreads => ?_⟩⟩
  exact ⟨fun info => callHelperForm_of_failed hk hreads, fun addr n k => callHelperForm_of_failed hk hreads,
    fun addr n => callHelperForm_of_failed hk hreads,
    fun r0 before c after => callHelperForm_of_unwritable hk hreads⟩

end Sys2Proof.Machine

/-! ## The invariant of a run

It falls into two parts that change independently: memory, by admitted writes and by the other agents' writes to shared
regions, and the call stack with register 10, by calls and returns. -/

namespace Sys2Proof

/-- The byte at `a` is in some region (R57, R90). -/
def Params.covers (p : Params) (a : Nat) : Prop :=
  ∃ r ∈ p.regions, r.base.toNat ≤ a ∧ a < r.base.toNat + r.length

theorem Params.covers_of_admits {p : Params} {kind : AccessKind} {a n x : Nat} (h : p.admits kind a n = true)
    (hl : a ≤ x) (hu : x < a + n) : p.covers x := by
  obtain ⟨-, r, hr, hin, -⟩ := Machine.Params.admits_iff.mp h
  obtain ⟨hbase, hend⟩ := of_decide_eq_true hin
  exact ⟨r, hr, by omega, by omega⟩

theorem Params.covers_of_interferes {p : Params} {a : Nat} (h : p.interferes a = true) : p.covers a := by
  obtain ⟨-, hany⟩ := Bool.and_eq_true_iff.mp h
  obtain ⟨r, hr, hin⟩ := List.any_eq_true.mp hany
  exact ⟨r, hr, of_decide_eq_true (Bool.and_eq_true_iff.mp hin).2⟩

namespace Machine

/-- The memory part of the invariant: canonical form, and every listed byte in a region of `p`. -/
structure Memory.Fits (p : Params) (m : Memory) : Prop where
  canonical : m.wf
  covered : ∀ c ∈ m.cells, p.covers c.1

/-- The call stack part of the invariant (R405). -/
structure State.StackFits (s : State) : Prop where
  depth : s.activeFunctions ≤ s.params.maxCallDepth
  linked : linked s.params.stackSize (s.reg .r10) s.frames

theorem State.inv_iff {s : State} : s.Inv ↔ s.mem.Fits s.params ∧ s.StackFits :=
  ⟨fun ⟨hwf, hcov, hdepth, hlinked⟩ => ⟨⟨hwf, hcov⟩, ⟨hdepth, hlinked⟩⟩,
    fun ⟨⟨hwf, hcov⟩, ⟨hdepth, hlinked⟩⟩ => ⟨hwf, hcov, hdepth, hlinked⟩⟩

theorem Memory.Fits.writeBytes {p : Params} {m : Memory} (h : m.Fits p) {kind : AccessKind} {a : Nat}
    {bs : List Byte} (ha : p.admits kind a bs.length = true) : (m.writeBytes a bs).Fits p where
  canonical := Memory.wf_writeBytes bs h.canonical (Params.admits_iff.mp ha).1
  covered := fun c hc => by
    rcases Memory.mem_writeBytes bs hc with hold | ⟨hl, hu⟩
    · exact h.covered c hold
    · exact Params.covers_of_admits ha hl hu

theorem Memory.Fits.writeCells {p : Params} {m : Memory} (h : m.Fits p) {cs : List (Nat × Byte)}
    (hcs : ∀ c ∈ cs, c.1 < 2 ^ 64 ∧ p.covers c.1) : (m.writeCells cs).Fits p where
  canonical := Memory.wf_writeCells cs h.canonical fun c hc => (hcs c hc).1
  covered := fun c hc => by
    rcases Memory.mem_writeCells cs hc with hold | ⟨d, hd, hdc⟩
    · exact h.covered c hold
    · exact hdc ▸ (hcs d hd).2

theorem State.fits_store {s : State} (h : s.mem.Fits s.params) {kind : AccessKind} {a n : Nat} {v : Word}
    (ha : s.params.admits kind a n = true) : (s.store a n v).mem.Fits s.params :=
  h.writeBytes (kind := kind) (by rwa [disassemble_length])

/-- Every effect that writes memory has passed the admission of what it writes (R91, R403). -/
theorem Effect.fits {s t : State} (h : Effect s t) (hm : s.mem.Fits s.params) : t.mem.Fits s.params := by
  cases h with
  | setReg | jump | load | call | endRun | ret => exact hm
  | store v ha => exact State.fits_store hm ha
  | rmw v ha | fetchRmw v old hr ha => exact State.fits_store (s := s.drew _) hm ha
  | helper r0 hw =>
    refine hm.writeCells fun c hc => ⟨?_, Params.covers_of_admits (hw c hc) (Nat.le_refl _) (Nat.lt_succ_self _)⟩
    exact (Params.admits_iff.mp (hw c hc)).1

theorem State.fits_othersAct {s : State} (h : s.mem.Fits s.params) : s.othersAct.mem.Fits s.params := by
  rcases s.othersAct_eq with e | ⟨cs, hcs, -, e⟩
  · rwa [e]
  · rw [e]
    exact h.writeCells fun c hc => ⟨(hcs c hc).1, Params.covers_of_interferes (hcs c hc).2⟩

/-- The call stack part of the invariant names the call stack, register 10 and the parameters alone. -/
theorem State.StackFits.congr {s t : State} (h : s.StackFits) (hf : t.frames = s.frames)
    (hr : t.reg .r10 = s.reg .r10) (hp : t.params = s.params) : t.StackFits := by
  obtain ⟨hdepth, hlinked⟩ := h
  exact ⟨by rwa [State.activeFunctions, hf, hp], by rwa [hf, hr, hp]⟩

/-- A call below the bound stays within it and links its frame to the caller's register 10; a return gives the caller
what its frame says, to which the frames below are linked (R405). -/
theorem Effect.stackFits {s t : State} (h : Effect s t) (hs : s.StackFits) : t.StackFits := by
  have unchanged (hf : t.frames = s.frames) : t.StackFits := hs.congr hf (h.framePointer_eq hf) h.params_eq
  obtain ⟨hdepth, hlinked⟩ := hs
  cases h with
  | setReg | jump | load | store | rmw | fetchRmw | helper | endRun => exact unchanged rfl
  | call d hd hfp =>
    refine ⟨?_, rfl, hfp ▸ hlinked⟩
    simp only [State.activeFunctions, List.length_cons] at hd hdepth ⊢
    omega
  | ret hf =>
    rw [hf] at hlinked
    refine ⟨?_, hlinked.2⟩
    simp only [State.activeFunctions, hf, List.length_cons] at hdepth ⊢
    omega

theorem Effect.inv {s t : State} (h : Effect s t) (hs : s.Inv) : t.Inv := by
  obtain ⟨hmem, hstack⟩ := State.inv_iff.mp hs
  exact State.inv_iff.mpr ⟨h.params_eq ▸ h.fits hmem, h.stackFits hstack⟩

theorem State.inv_othersAct {s : State} (hs : s.Inv) : s.othersAct.Inv := by
  obtain ⟨hmem, hstack⟩ := State.inv_iff.mp hs
  refine State.inv_iff.mpr ⟨?_, hstack.congr s.othersAct_frames (s.reg_othersAct .r10) s.othersAct_params⟩
  rw [State.othersAct_params]
  exact State.fits_othersAct hmem

/-- Settles O58: neither the effect of the instruction nor the other agents' turn breaks the invariant. -/
theorem invariantKeptByEveryStep : Obligations.InvariantKeptByEveryStep := by
  intro s t hs hstep
  obtain ⟨i, u, -, hu, rfl⟩ := step_next hstep
  exact State.inv_othersAct ((exec_effect hu).inv hs)

end Machine

end Sys2Proof

/-! ## Loads and stores, from the checks to the bytes

Where its checks pass, a load gives what a read may give, and a store leaves what was to be stored. -/

namespace Sys2Proof.Machine

section Forms

variable {s : State} {size : Size} {dst src : Reg} {off : BitVec 16} {base y : Word}

theorem loadForm_completes {ext : Word → Word} (hdst : dst ≠ .r10) (hb : s.reg src = some base)
    (halign : s.params.strictAlign = true → (effectiveAddress base off).toNat % size.bytes = 0)
    (hadm : s.admitted .read (effectiveAddress base off).toNat size.bytes) :
    ∃ v, s.reads (effectiveAddress base off).toNat size.bytes v ∧
      loadForm size ext dst src off s = .next { s with
        regs := s.regs.put dst (some (ext v)), pc := s.pc + 1, draws := s.draws + size.bytes } := by
  refine ⟨s.load _ _, reads_load s _ (by cases size <;> decide), loadForm_next.mpr ?_⟩
  exact ⟨(Reg.writable_iff dst).mpr hdst, base, hb, halign, admits_iff_admitted.mpr hadm, rfl⟩

/-- `r` is a store of the low `n` bytes of `v` at `a`, from `s`: it completes where the checks of R87 and R91 pass. -/
def StoresBytes (s : State) (a n : Nat) (v : Word) (r : Result) : Prop :=
  (s.params.strictAlign = true → a % n = 0) → s.admitted .write a n →
    ∃ t, r = .next t ∧ s.stored t a n v ∧ t = { s with mem := t.mem, pc := s.pc + 1 }

/-- A store of `n` bytes names no other byte of its value. -/
theorem StoresBytes.congr {a n : Nat} {v w : Word} {r : Result} (h : StoresBytes s a n v r)
    (hbytes : ∀ k, k < n → v.extractLsb' (8 * k) 8 = w.extractLsb' (8 * k) 8) : StoresBytes s a n w r := by
  intro halign hadm
  obtain ⟨t, hr, ⟨hin, hout⟩, ht⟩ := h halign hadm
  exact ⟨t, hr, ⟨fun k hk => hbytes k hk ▸ hin k hk, hout⟩, ht⟩

theorem storeAt_stores (v : Word) :
    StoresBytes s (effectiveAddress base off).toNat size.bytes v (storeAt size base off v s) :=
  fun halign hadm =>
    ⟨_, storeAt_next.mpr ⟨halign, admits_iff_admitted.mpr hadm, rfl⟩, stored_store s _ _ v, rfl⟩

theorem storeImm_stores {imm : Word32} (hb : s.reg dst = some base) :
    StoresBytes s (effectiveAddress base off).toNat size.bytes (sextImm imm) (storeImm size dst off imm s) := by
  intro halign hadm
  obtain ⟨t, hr, ht⟩ := storeAt_stores (sextImm imm) halign hadm
  exact ⟨t, storeImm_next.mpr ⟨base, hb, hr⟩, ht⟩

theorem storeReg_stores (hb : s.reg dst = some base) (hy : s.reg src = some y) :
    StoresBytes s (effectiveAddress base off).toNat size.bytes y (storeReg size dst src off s) := by
  intro halign hadm
  obtain ⟨t, hr, ht⟩ := storeAt_stores y halign hadm
  exact ⟨t, storeReg_next.mpr ⟨base, hb, y, hy, hr⟩, ht⟩

/-- The four low bytes of an immediate are the same, sign-extended or not. -/
theorem byte_sextImm (imm : Word32) {k : Nat} (hk : k < 4) :
    (sextImm imm).extractLsb' (8 * k) 8 = (imm.setWidth 64).extractLsb' (8 * k) 8 := by
  apply BitVec.eq_of_getLsbD_eq
  intro j hj
  have h32 : 8 * k + j < 32 := by omega
  simp only [sextImm, BitVec.getLsbD_extractLsb', BitVec.getLsbD_signExtend, BitVec.getLsbD_setWidth, h32, if_true]

theorem storeImm_stores_of_narrow {imm : Word32} (hn : size.bytes ≤ 4) (hb : s.reg dst = some base) :
    StoresBytes s (effectiveAddress base off).toNat size.bytes (imm.setWidth 64) (storeImm size dst off imm s) :=
  (storeImm_stores hb).congr fun _ hk => byte_sextImm imm (Nat.lt_of_lt_of_le hk hn)

end Forms

/-- Settles O33: the seven loads are one form, at four widths and with their extensions of the value read. -/
theorem loadsCompleteWithBytesRead : Obligations.LoadsCompleteWithBytesRead := by
  intro s dst src off base hdst hb
  have load (size : Size) (ext : Word → Word) := loadForm_completes (size := size) (ext := ext) (off := off) hdst hb
  exact ⟨load .w fun v => v, load .h fun v => v, load .b fun v => v, load .dw fun v => v,
    load .w fun v => (v.setWidth 32).signExtend 64, load .h fun v => (v.setWidth 16).signExtend 64,
    load .b fun v => (v.setWidth 8).signExtend 64⟩

/-- Settles O34: the model stores the sign-extended immediate at every width, which the narrow ones cannot tell. -/
theorem storesCompleteWithBytesWritten : Obligations.StoresCompleteWithBytesWritten := by
  intro s dst src off imm base y hb
  refine ⟨storeImm_stores_of_narrow (size := .w) (by decide) hb,
    storeImm_stores_of_narrow (size := .h) (by decide) hb,
    storeImm_stores_of_narrow (size := .b) (by decide) hb, storeImm_stores (size := .dw) hb, fun hy => ?_⟩
  exact ⟨storeReg_stores (size := .w) hb hy, storeReg_stores (size := .h) hb hy,
    storeReg_stores (size := .b) hb hy, storeReg_stores (size := .dw) hb hy⟩

end Sys2Proof.Machine

/-! ## Atomic operations, from the checks to the bytes (R98, R474, R475) -/

namespace Sys2Proof.Machine

section Forms

variable {s : State} {dst src : Reg} {off : BitVec 16} {base y : Word}

/-- `r` is an atomic operation on the `n` bytes at `a`, from `s`: past the checks of R88 and R91 it reads an old value,
stores `f` of it, and leaves the registers `regs` of it. -/
def UpdatesBytes (s : State) (a n : Nat) (f : Word → Word) (regs : Word → RegFile) (r : Result) : Prop :=
  a % n = 0 → s.admitted .readWrite a n →
    ∃ old t, s.reads a n old ∧ r = .next t ∧ s.stored t a n (f old) ∧
      t = { s with regs := regs old, mem := t.mem, pc := s.pc + 1, draws := s.draws + n }

/-- The old value is the one that the model loads. -/
theorem UpdatesBytes.of_load {a n : Nat} {f : Word → Word} {regs : Word → RegFile} {r : Result} (hn : n ≤ 8)
    (h : a % n = 0 → s.params.admits .readWrite a n = true →
      r = .next { (s.drew n).store a n (f (s.load a n)) with regs := regs (s.load a n), pc := s.pc + 1 }) :
    UpdatesBytes s a n f regs r := fun halign hadm =>
  ⟨s.load a n, _, reads_load s a hn, h halign (admits_iff_admitted.mpr hadm),
    stored_store (s.drew n) a n (f (s.load a n)), rfl⟩

theorem atomic64_updates (f : Word → Word → Word) (hb : s.reg dst = some base) (hy : s.reg src = some y) :
    UpdatesBytes s (effectiveAddress base off).toNat 8 (f · y) (fun _ => s.regs) (atomic64 f dst src off s) :=
  .of_load (by decide) fun halign hadm => atomic64_next.mpr ⟨base, hb, y, hy, halign, hadm, rfl⟩

theorem atomicFetch64_updates (f : Word → Word → Word) (hsrc : src ≠ .r10) (hb : s.reg dst = some base)
    (hy : s.reg src = some y) :
    UpdatesBytes s (effectiveAddress base off).toNat 8 (f · y) (fun old => s.regs.put src (some old))
      (atomicFetch64 f dst src off s) :=
  .of_load (by decide) fun halign hadm =>
    atomicFetch64_next.mpr ⟨(Reg.writable_iff src).mpr hsrc, base, hb, y, hy, halign, hadm, rfl⟩

theorem cmpxchg64_updates {c : Word} (hb : s.reg dst = some base) (hy : s.reg src = some y)
    (hc : s.reg .r0 = some c) :
    UpdatesBytes s (effectiveAddress base off).toNat 8 (fun o => if o = c then y else o)
      (fun old => s.regs.put .r0 (some old)) (execAtomicCmpxchg64 dst src off s) :=
  .of_load (by decide) fun halign hadm =>
    readReg_next.mpr ⟨base, hb, readReg_next.mpr ⟨y, hy, readReg_next.mpr ⟨c, hc,
      atomicRmw_next.mpr ⟨halign, hadm, rfl⟩⟩⟩⟩

/-- Four bytes read stand zero-extended, so the old value is its own low half. -/
theorem zext_low32_load (s : State) (a : Nat) : zext (low32 (s.load a 4)) = s.load a 4 := by
  have hlt : (s.load a 4).toNat < 2 ^ 32 := (reads_load s a (by decide)).1
  apply BitVec.eq_of_toNat_eq
  rw [toNat_zext, low32, BitVec.toNat_setWidth, Nat.mod_eq_of_lt hlt]

theorem atomic32_updates (f : Word32 → Word32 → Word32) (hb : s.reg dst = some base) (hy : s.reg src = some y) :
    UpdatesBytes s (effectiveAddress base off).toNat 4 (fun o => zext (f (low32 o) (low32 y))) (fun _ => s.regs)
      (atomic32 f dst src off s) :=
  .of_load (by decide) fun halign hadm => atomic32_next.mpr ⟨base, hb, y, hy, halign, hadm, rfl⟩

theorem atomicFetch32_updates (f : Word32 → Word32 → Word32) (hsrc : src ≠ .r10) (hb : s.reg dst = some base)
    (hy : s.reg src = some y) :
    UpdatesBytes s (effectiveAddress base off).toNat 4 (fun o => zext (f (low32 o) (low32 y)))
      (fun old => s.regs.put src (some old)) (atomicFetch32 f dst src off s) :=
  .of_load (by decide) fun halign hadm =>
    atomicFetch32_next.mpr ⟨(Reg.writable_iff src).mpr hsrc, base, hb, y, hy, halign, hadm, by
      rw [zext_low32_load]; rfl⟩

theorem cmpxchg32_updates {c : Word} (hb : s.reg dst = some base) (hy : s.reg src = some y)
    (hc : s.reg .r0 = some c) :
    UpdatesBytes s (effectiveAddress base off).toNat 4
      (fun o => zext (if low32 o = low32 c then low32 y else low32 o))
      (fun old => s.regs.put .r0 (some old)) (execAtomicCmpxchg32 dst src off s) :=
  .of_load (by decide) fun halign hadm =>
    readReg_next.mpr ⟨base, hb, readReg_next.mpr ⟨y, hy, readReg_next.mpr ⟨c, hc,
      atomicRmw_next.mpr ⟨halign, hadm, by rw [apply_ite zext, Size.bytes, zext_low32_load]; rfl⟩⟩⟩⟩

end Forms

/-- Settles O35: the plain operations and the fetching ones are one form each, and BPF_CMPXCHG is its own. -/
theorem atomic64Complete : Obligations.Atomic64Complete := by
  intro s dst src off base y hb hy
  have plain (f : Word → Word → Word) := atomic64_updates (off := off) f hb hy
  refine ⟨plain fun o v => o + v, plain fun o v => o ||| v, plain fun o v => o &&& v, plain fun o v => o ^^^ v,
    fun c hc => cmpxchg64_updates hb hy hc, fun hsrc => ?_⟩
  have fetching (f : Word → Word → Word) := atomicFetch64_updates (off := off) f hsrc hb hy
  exact ⟨fetching fun o v => o + v, fetching fun o v => o ||| v, fetching fun o v => o &&& v,
    fetching fun o v => o ^^^ v, fetching fun _ v => v⟩

/-- Settles O36: the same forms on low halves, whose results the model zero-extends (R475). -/
theorem atomic32Complete : Obligations.Atomic32Complete := by
  intro s dst src off base z hb hz
  have plain (f : Word32 → Word32 → Word32) := atomic32_updates (off := off) f hb hz
  refine ⟨plain fun o v => o + v, plain fun o v => o ||| v, plain fun o v => o &&& v, plain fun o v => o ^^^ v,
    fun d hd => cmpxchg32_updates hb hz hd, fun hsrc => ?_⟩
  have fetching (f : Word32 → Word32 → Word32) := atomicFetch32_updates (off := off) f hsrc hb hz
  exact ⟨fetching fun o v => o + v, fetching fun o v => o ||| v, fetching fun o v => o &&& v,
    fetching fun o v => o ^^^ v, fetching fun _ v => v⟩

end Sys2Proof.Machine

/-! ## The faults that an instruction can raise

`Ends K x` bounds the outcomes of a meaning `x` on the side of the faults, as `Post` does on that of the next state. -/

namespace Sys2Proof.Machine

/-- `x` answers a next state or a fault of `K`, and never a refusal (R541). -/
inductive Ends (K : Fault → Prop) : Result → Prop
  | next (t : State) : Ends K (.next t)
  | fault {k : Fault} (h : K k) : Ends K (.fault k)

/-- The faults of an instruction once it is fetched (R544). -/
def Fault.afterFetch : Fault → Prop
  | .pcOutOfRange _ => False
  | _ => True

/-- The faults of a helper call once its key is found (R548, R555). -/
def Fault.afterKey : Fault → Prop
  | .pcOutOfRange _ => False
  | .unknownHelper _ _ => False
  | _ => True

theorem Fault.afterFetch_of_afterKey {k : Fault} (h : k.afterKey) : k.afterFetch := by
  cases k with
  | pcOutOfRange => exact h
  | _ => trivial

section Rules

variable {K L : Fault → Prop} {s : State} {x : Result}

theorem Ends.mono (h : Ends K x) (hKL : ∀ k, K k → L k) : Ends L x := by
  cases h with
  | next t => exact .next t
  | fault hk => exact .fault (hKL _ hk)

theorem Ends.of_fault {k : Fault} (h : Ends K x) (hx : x = .fault k) : K k := by
  subst hx
  cases h with
  | fault hk => exact hk

theorem Ends.completes_or_faults (h : Ends K x) : (∃ t, x = .next t) ∨ ∃ k, x = .fault k := by
  cases h with
  | next t => exact .inl ⟨t, rfl⟩
  | @fault k _ => exact .inr ⟨k, rfl⟩

theorem Ends.othersFollow (h : Ends K x) : Ends K (othersFollow x) := by
  cases h with
  | next t => exact .next _
  | fault hk => exact .fault hk

theorem Ends.readReg {r : Reg} {f : Word → Result} (hk : K (.unwrittenRegister r)) (h : ∀ v, Ends K (f v)) :
    Ends K (readReg s r f) := by
  unfold Machine.readReg
  split
  · exact h _
  · exact .fault hk

theorem Ends.guardWrite {r : Reg} (h : Ends Fault.afterFetch x) : Ends Fault.afterFetch (guardWrite s r x) := by
  unfold Machine.guardWrite
  split
  · exact h
  · exact .fault trivial

theorem Ends.checkAccess {aligned : Bool} {kind : AccessKind} {addr : Word} {n : Nat}
    (h : Ends Fault.afterFetch x) : Ends Fault.afterFetch (checkAccess s aligned kind addr n x) := by
  unfold Machine.checkAccess
  split
  · exact .fault trivial
  · split
    · exact h
    · exact .fault trivial

theorem Ends.wideForm {value : Option Word} {subtype : BitVec 4} {dst : Reg} {imm : Word32} :
    Ends Fault.afterFetch (wideForm value subtype dst imm s) := by
  refine .guardWrite ?_
  cases value with
  | none => exact .fault trivial
  | some v => exact .next _

theorem Ends.readArgs {as : List ArgReg} (hk : ∀ r, K (.unwrittenRegister r)) (h : Ends K x) :
    Ends K (readArgs s as x) := by
  induction as with
  | nil => exact h
  | cons a as ih => exact .readReg (hk _) fun _ => ih

theorem Ends.checkWrites {cs : List (Nat × Byte)} (hk : ∀ a, K (.memFault a 1 .write)) (h : Ends K x) :
    Ends K (checkWrites s cs x) := by
  induction cs with
  | nil => exact h
  | cons c cs ih =>
    unfold Machine.checkWrites
    split
    · exact ih
    · exact .fault (hk _)

theorem fault_afterKey (why : HelperFailure) : why.fault.afterKey := by
  cases why <;> trivial

theorem Ends.callHelperForm_of_key {kind : HelperKind} {imm : Word32} {h : Helper}
    (hk : s.params.helper kind imm = some h) : Ends Fault.afterKey (callHelperForm kind imm s) := by
  rw [Machine.callHelperForm, hk]
  refine .readArgs (fun _ => trivial) ?_
  split
  · next why _ => exact .fault (fault_afterKey why)
  · exact .checkWrites (fun _ => trivial) (.next _)

theorem Ends.callHelperForm {kind : HelperKind} {imm : Word32} :
    Ends Fault.afterFetch (callHelperForm kind imm s) := by
  cases hk : s.params.helper kind imm with
  | none => rw [callHelperForm_of_absent hk]; exact .fault trivial
  | some h => exact (Ends.callHelperForm_of_key hk).mono fun _ => Fault.afterFetch_of_afterKey

theorem Ends.callLocal {imm : Word32} : Ends Fault.afterFetch (execCallLocal imm s) := by
  unfold execCallLocal
  split
  · exact .fault trivial
  · exact .readReg trivial fun _ => .next _

theorem Ends.exit : Ends Fault.afterFetch (execExit s) := by
  refine .readReg trivial fun _ => ?_
  split
  · exact .next _
  · exact .next _

end Rules

/-- One case for each shape of a meaning: its checks and reads in order, then the state it answers. -/
theorem exec_ends (i : Instr) (s : State) : Ends Fault.afterFetch (exec i s) := by
  cases i with
  | mov64Imm | mov32Imm | ldImm64 => exact .guardWrite (.next _)
  | add64Imm | sub64Imm | mul64Imm | div64Imm | sdiv64Imm | or64Imm | and64Imm | lsh64Imm | rsh64Imm | mod64Imm
  | smod64Imm | xor64Imm | arsh64Imm | neg64 | mov64Reg | movsx64From8 | movsx64From16 | movsx64From32
  | add32Imm | sub32Imm | mul32Imm | div32Imm | sdiv32Imm | or32Imm | and32Imm | lsh32Imm | rsh32Imm | mod32Imm
  | smod32Imm | xor32Imm | arsh32Imm | neg32 | mov32Reg | movsx32From8 | movsx32From16
  | le16 | le32 | le64 | be16 | be32 | be64 | bswap16 | bswap32 | bswap64 =>
    exact .guardWrite (.readReg trivial fun _ => .next _)
  | add64Reg | sub64Reg | mul64Reg | div64Reg | sdiv64Reg | or64Reg | and64Reg | lsh64Reg | rsh64Reg | mod64Reg
  | smod64Reg | xor64Reg | arsh64Reg
  | add32Reg | sub32Reg | mul32Reg | div32Reg | sdiv32Reg | or32Reg | and32Reg | lsh32Reg | rsh32Reg | mod32Reg
  | smod32Reg | xor32Reg | arsh32Reg =>
    exact .guardWrite (.readReg trivial fun _ => .readReg trivial fun _ => .next _)
  | ldMapFd | ldMapFdVal | ldVarAddr | ldCodeAddr | ldMapIdx | ldMapIdxVal => exact .wideForm
  | ldxW | ldxH | ldxB | ldxDw | ldxsxW | ldxsxH | ldxsxB =>
    exact .guardWrite (.readReg trivial fun _ => .checkAccess (.next _))
  | stW | stH | stB | stDw => exact .readReg trivial fun _ => .checkAccess (.next _)
  | stxW | stxH | stxB | stxDw | atomicAdd32 | atomicOr32 | atomicAnd32 | atomicXor32
  | atomicAdd64 | atomicOr64 | atomicAnd64 | atomicXor64 =>
    exact .readReg trivial fun _ => .readReg trivial fun _ => .checkAccess (.next _)
  | atomicFetchAdd32 | atomicFetchOr32 | atomicFetchAnd32 | atomicFetchXor32 | atomicXchg32
  | atomicFetchAdd64 | atomicFetchOr64 | atomicFetchAnd64 | atomicFetchXor64 | atomicXchg64 =>
    exact .guardWrite (.readReg trivial fun _ => .readReg trivial fun _ => .checkAccess (.next _))
  | atomicCmpxchg32 | atomicCmpxchg64 =>
    exact .readReg trivial fun _ => .readReg trivial fun _ => .readReg trivial fun _ => .checkAccess (.next _)
  | ja | ja32 => exact .next _
  | jeq64Imm | jgt64Imm | jge64Imm | jset64Imm | jne64Imm | jsgt64Imm | jsge64Imm | jlt64Imm | jle64Imm | jslt64Imm
  | jsle64Imm | jeq32Imm | jgt32Imm | jge32Imm | jset32Imm | jne32Imm | jsgt32Imm | jsge32Imm | jlt32Imm | jle32Imm
  | jslt32Imm | jsle32Imm =>
    exact .readReg trivial fun _ => .next _
  | jeq64Reg | jgt64Reg | jge64Reg | jset64Reg | jne64Reg | jsgt64Reg | jsge64Reg | jlt64Reg | jle64Reg | jslt64Reg
  | jsle64Reg | jeq32Reg | jgt32Reg | jge32Reg | jset32Reg | jne32Reg | jsgt32Reg | jsge32Reg | jlt32Reg | jle32Reg
  | jslt32Reg | jsle32Reg =>
    exact .readReg trivial fun _ => .readReg trivial fun _ => .next _
  | ldAbsW | ldAbsH | ldAbsB | ldAbsDw | ldIndW | ldIndH | ldIndB | ldIndDw => exact .fault trivial
  | callHelper | callBtf => exact .callHelperForm
  | callLocal => exact .callLocal
  | exit => exact .exit

/-- No instruction raises PcOutOfRange: the fetch alone does (R544). -/
theorem exec_ne_pcOutOfRange (i : Instr) (s : State) (p : Int) : exec i s ≠ .fault (.pcOutOfRange p) :=
  fun h => (exec_ends i s).of_fault h

/-! ## One step: what ends it in a fault -/

theorem step_of_fetch_error {s : State} {k : Fault} (hr : s.status = .running) (hf : fetch s = .error k) :
    step s = .fault k := by
  simp only [step, hr, hf]

/-- A running step faults in its fetch or in its instruction (R555). -/
theorem step_fault {s : State} {k : Fault} (hr : s.status = .running) :
    step s = .fault k ↔ fetch s = .error k ∨ ∃ i, fetch s = .ok i ∧ exec i s = .fault k := by
  cases hf : fetch s with
  | error j => simp [step_of_fetch_error hr hf]
  | ok i => simp [step_of_fetch hr hf, othersFollow_fault]

/-- Settles O11: neither the fetch nor an instruction nor the other agents' turn refuses. -/
theorem runningStepNeverRefuses : Obligations.RunningStepNeverRefuses := by
  intro s hr
  cases hf : fetch s with
  | error k => exact .inr ⟨k, step_of_fetch_error hr hf⟩
  | ok i =>
    rw [step_of_fetch hr hf]
    exact (exec_ends i s).othersFollow.completes_or_faults

theorem State.slotAt_eq_none {s : State} {i : Int} :
    s.slotAt i = none ↔ i < 0 ∨ (s.params.program.length : Int) ≤ i := by
  unfold State.slotAt
  split
  · next hneg => simp [hneg]
  · next hneg =>
    rw [List.getElem?_eq_none_iff]
    omega

/-- The fetch raises PcOutOfRange where there is no slot, and elsewhere at most IllegalEncoding (R542, R544). -/
theorem fetch_pcOutOfRange {s : State} {p : Int} :
    fetch s = .error (.pcOutOfRange p) ↔ p = s.pc ∧ s.slotAt s.pc = none := by
  unfold fetch
  split
  · next hs => simp only [Except.error.injEq, Fault.pcOutOfRange.injEq, hs, and_true, eq_comm]
  · next w hs => split <;> simp [hs]

/-- Settles O10: of all causes of a fault the missing slot alone is PcOutOfRange. -/
theorem pcOutOfRangeExactlyOutsideProgram : Obligations.PcOutOfRangeExactlyOutsideProgram := by
  intro s hr p
  calc step s = .fault (.pcOutOfRange p)
      ↔ fetch s = .error (.pcOutOfRange p) ∨ ∃ i, fetch s = .ok i ∧ exec i s = .fault (.pcOutOfRange p) :=
        step_fault hr
    _ ↔ fetch s = .error (.pcOutOfRange p) :=
        or_iff_left fun ⟨i, _, hi⟩ => exec_ne_pcOutOfRange i s p hi
    _ ↔ p = s.pc ∧ s.slotAt s.pc = none := fetch_pcOutOfRange
    _ ↔ p = s.pc ∧ (s.pc < 0 ∨ (s.params.program.length : Int) ≤ s.pc) := by rw [State.slotAt_eq_none]

theorem advance_of_fault {s : State} {k : Fault} (h : step s = .fault k) : s.advance = s.recordFault k := by
  rw [State.advance, h]

/-- Settles O12: the run records the fault, which names the status alone. -/
theorem faultChangesOnlyStatus : Obligations.FaultChangesOnlyStatus := by
  intro s k h
  rw [advance_of_fault h]
  exact ⟨rfl, rfl, rfl, rfl, rfl, rfl, rfl, rfl, rfl⟩

theorem fetch_of_decode_error {s : State} {a : Slot} {why : Illegal} (ha : s.slotAt s.pc = some a)
    (hd : decode s.params.endian a (s.slotAt (s.pc + 1)) = .error why) :
    fetch s = .error (.illegalEncoding s.pc (some a) why) := by
  simp [fetch, ha, hd]

/-- Settles O15: the decoder's answer is the fetch's fault, and no row of the opcode maps is of the byte 0x00. -/
theorem jumpIntoSecondSlotIsIllegal : Obligations.JumpIntoSecondSlotIsIllegal := by
  intro s a hr ha
  have illegal : ∀ why, decode s.params.endian a (s.slotAt (s.pc + 1)) = .error why →
      step s = .fault (.illegalEncoding s.pc (some a) why) :=
    fun why hd => step_of_fetch_error hr (fetch_of_decode_error ha hd)
  refine ⟨illegal, fun hb0 => ?_⟩
  have hundef : a.b0 ∉ definedOpcodes := by rw [hb0]; decide
  exact hb0 ▸ illegal _ (undefinedOpcodesAreRefused _ _ _ hundef)

/-! ## Legacy packet access (R530, R531) -/

/-- A legacy opcode byte alone tells the instruction, whose one outcome is Unmodelled (R161, R530). -/
theorem decodeFields_of_legacy {f : Fields} (second : Option Fields)
    (h : f.opcode ∈ [0x20#8, 0x28#8, 0x30#8, 0x38#8, 0x40#8, 0x48#8, 0x50#8, 0x58#8]) :
    ∃ i, decodeFields f second = .ok i ∧ ∀ s, exec i s = .fault (.unmodelled f.opcode) := by
  have row {op : Byte} {i : Instr} (hop : f.opcode = op)
      (hi : i.fields = ⟨op, f.dst, f.src, f.offset, f.imm⟩) (hone : i.secondFields = none) (hwf : i.wf = true)
      (hx : ∀ s, exec i s = .fault (.unmodelled op)) :
      ∃ i, decodeFields f second = .ok i ∧ ∀ s, exec i s = .fault (.unmodelled f.opcode) :=
    ⟨i, decodeFields_ok.mpr ⟨hwf, by rw [hi, ← hop], by rw [hone]; rfl⟩, hop ▸ hx⟩
  simp only [List.mem_cons, List.not_mem_nil, or_false] at h
  rcases h with hop | hop | hop | hop | hop | hop | hop | hop
  · exact row (i := .ldAbsW f.dst f.src f.offset f.imm) hop rfl rfl rfl fun _ => rfl
  · exact row (i := .ldAbsH f.dst f.src f.offset f.imm) hop rfl rfl rfl fun _ => rfl
  · exact row (i := .ldAbsB f.dst f.src f.offset f.imm) hop rfl rfl rfl fun _ => rfl
  · exact row (i := .ldAbsDw f.dst f.src f.offset f.imm) hop rfl rfl rfl fun _ => rfl
  · exact row (i := .ldIndW f.dst f.src f.offset f.imm) hop rfl rfl rfl fun _ => rfl
  · exact row (i := .ldIndH f.dst f.src f.offset f.imm) hop rfl rfl rfl fun _ => rfl
  · exact row (i := .ldIndB f.dst f.src f.offset f.imm) hop rfl rfl rfl fun _ => rfl
  · exact row (i := .ldIndDw f.dst f.src f.offset f.imm) hop rfl rfl rfl fun _ => rfl

/-- Settles O16: the eight meanings are the fault, and the decoder reaches them by byte 0 of the slot. -/
theorem legacyPacketAccessIsUnmodelled : Obligations.LegacyPacketAccessIsUnmodelled := by
  refine ⟨fun s dst src offset imm => ⟨rfl, rfl, rfl, rfl, rfl, rfl, rfl, rfl⟩, fun s a hr ha hop => ?_⟩
  rw [← Fields.ofSlot_opcode s.params.endian a] at hop ⊢
  obtain ⟨i, hd, hx⟩ := decodeFields_of_legacy ((s.slotAt (s.pc + 1)).map (Fields.ofSlot s.params.endian)) hop
  exact (step_fault hr).mpr (.inr ⟨i, fetch_of_decode ha hd, hx s⟩)

/-! ## Zero divisors (R203, R253) -/

/-- Whatever the operand form and the width, a zero divisor gives 0 or the dividend. -/
theorem zero_divisor_results {n : Nat} {form : (BitVec n → BitVec n → BitVec n) → Result}
    {done : BitVec n → Result} {a b : BitVec n} (hform : ∀ f, form f = done (f a b)) (hb : b = 0) :
    form udivOrZero = done 0 ∧ form sdivOrZero = done 0 ∧ form umodOrSame = done a ∧ form smodOrSame = done a := by
  simp only [hform, hb, udivOrZero, sdivOrZero, umodOrSame, smodOrSame, BitVec.ofNat_eq_ofNat, if_true, and_self]

/-- Settles O23: the four operand forms hand over a zero divisor. -/
theorem zeroDivisorIsNoFault : Obligations.ZeroDivisorIsNoFault := by
  intro s dst src x y hdst hx hy done
  obtain ⟨div64, sdiv64, mod64, smod64⟩ := zero_divisor_results (form := (alu64K · dst 0 s)) (done := done)
    (fun f => alu64K_completes f 0 hdst hx) (by decide)
  obtain ⟨div32, sdiv32, mod32, smod32⟩ := zero_divisor_results (form := (alu32K · dst 0 s))
    (done := fun v => done (zext v)) (fun f => alu32K_completes f 0 hdst hx) rfl
  exact ⟨div64, sdiv64, mod64, smod64, div32, sdiv32, mod32, smod32,
    zero_divisor_results (form := (alu64X · dst src s)) fun f => alu64X_completes f hdst hx hy,
    zero_divisor_results (form := (alu32X · dst src s)) (done := fun v => done (zext v))
      fun f => alu32X_completes f hdst hx hy⟩

/-! ## Calls that do not go through (R547, R548) -/

/-- Settles O41: the depth check comes before the read of register 10. -/
theorem localCallAtDepthBoundFaults : Obligations.LocalCallAtDepthBoundFaults :=
  fun _ _ hd => if_pos hd

theorem helper_eq_none {p : Params} {kind : HelperKind} {imm : Word32} :
    p.helper kind imm = none ↔ ∀ h ∈ p.helpers, ¬ (h.kind = kind ∧ h.id = imm) := by
  simp [Params.helper]

theorem callHelperForm_unknownHelper {s : State} {kind : HelperKind} {imm : Word32} :
    callHelperForm kind imm s = .fault (.unknownHelper kind imm) ↔
      ∀ h ∈ s.params.helpers, ¬ (h.kind = kind ∧ h.id = imm) := by
  rw [← helper_eq_none]
  refine ⟨fun hx => ?_, callHelperForm_of_absent⟩
  cases hk : s.params.helper kind imm with
  | none => rfl
  | some h => exact ((Ends.callHelperForm_of_key hk).of_fault hx).elim

/-- Settles O46: both kinds of call are one form. -/
theorem unknownHelperExactlyForAbsentKeys : Obligations.UnknownHelperExactlyForAbsentKeys :=
  fun _ _ => ⟨callHelperForm_unknownHelper, callHelperForm_unknownHelper⟩

/-! ## 64-bit immediates (R511, R512, R549) -/

/-- Settles O47: the two halves do not overlap. -/
theorem wideConstantIsAssembled : Obligations.WideConstantIsAssembled := by
  intro s dst imm nextImm hdst
  refine ⟨nextImm ++ imm, ?_, ?_⟩
  · rw [BitVec.toNat_append, ← Nat.shiftLeft_add_eq_or_of_lt imm.isLt, Nat.shiftLeft_eq]
  · exact guardWrite_next.mpr ⟨(Reg.writable_iff dst).mpr hdst, rfl⟩

theorem mapValue_eq {s : State} {map : Option Word} {nextImm : Word32} :
    mapValue s map nextImm = (map.bind fun m => s.params.mapVal.lookup m).map (· + nextImm.setWidth 64) := by
  cases map with
  | none => rfl
  | some m => simp only [mapValue, Option.bind_some]; cases s.params.mapVal.lookup m <;> rfl

theorem wideForm_completes {s : State} {dst : Reg} {value : Option Word} {v : Word} {subtype : BitVec 4}
    {imm : Word32} (hdst : dst ≠ .r10) (hv : value = some v) :
    wideForm value subtype dst imm s = .next ((s.setReg dst v).skip 2) :=
  wideForm_next.mpr ⟨(Reg.writable_iff dst).mpr hdst, v, hv, rfl⟩

/-- Settles O48: the six subtypes are one form, at the platform function of each. -/
theorem platformAddressLoads : Obligations.PlatformAddressLoads := by
  intro s dst imm nextImm v m hdst done
  have value {map : Option Word} (hm : map = some m) (hv : s.params.mapVal.lookup m = some v) :
      mapValue s map nextImm = some (v + nextImm.setWidth 64) := by
    rw [mapValue_eq, hm, Option.bind_some, hv, Option.map_some]
  exact ⟨wideForm_completes hdst, fun hm hv => wideForm_completes hdst (value hm hv), wideForm_completes hdst,
    wideForm_completes hdst, wideForm_completes hdst, fun hm hv => wideForm_completes hdst (value hm hv)⟩

theorem wideForm_platformUndefined {s : State} {dst : Reg} {value : Option Word} {subtype : BitVec 4}
    {imm : Word32} (hdst : dst ≠ .r10) :
    wideForm value subtype dst imm s = .fault (.platformUndefined subtype imm) ↔ value = none := by
  cases value with
  | none => simp [wideForm, guardWrite, (Reg.writable_iff dst).mpr hdst, platform, raise]
  | some v => simp [wideForm_completes hdst rfl]

/-- Settles O49: the six subtypes are one form, and `next_imm` does not decide where it has a value. -/
theorem platformUndefinedExactlyWhereUndefined : Obligations.PlatformUndefinedExactlyWhereUndefined := by
  intro s dst imm nextImm hdst undefinedFor
  have value (map : Option Word) :
      mapValue s map nextImm = none ↔ (map.bind fun m => s.params.mapVal.lookup m) = none := by
    rw [mapValue_eq, Option.map_eq_none_iff]
  exact ⟨wideForm_platformUndefined hdst, (wideForm_platformUndefined hdst).trans (value _),
    wideForm_platformUndefined hdst, wideForm_platformUndefined hdst, wideForm_platformUndefined hdst,
    (wideForm_platformUndefined hdst).trans (value _)⟩

/-! ## The launch and reset (R601) -/

/-- Settles O14: the launch puts each of its arguments into a field. -/
theorem launchSetsEntryState : Obligations.LaunchSetsEntryState :=
  fun _ _ _ => ⟨rfl, rfl, fun _ => rfl, rfl, fun _ => rfl, rfl, rfl⟩

/-- Settles O57: with an empty call stack the entry function alone is active, and no frame is to be linked. -/
theorem invariantHoldsAtLaunch : Obligations.InvariantHoldsAtLaunch :=
  fun _ _ _ hdepth hwf hcov => State.inv_iff.mpr ⟨⟨hwf, hcov⟩, ⟨hdepth, trivial⟩⟩

/-- Settles O56: reset is a launch with no defined byte of memory. -/
theorem invariantHoldsAtReset : Obligations.InvariantHoldsAtReset :=
  invariantHoldsAtLaunch _ _ _ (by decide) ⟨.nil, nofun⟩ nofun

end Sys2Proof.Machine
